-- ==== Sys2Proof/Word.lean ====
section
/-! DEFINITION. The word types of RVEMU-CORE (00_scope.md R9, R10): 32-bit words (register values, the pc, addresses,
instruction words), bytes of memory, and the 5-bit register fields. Arithmetic on them is that of `BitVec`: `+` is modulo 2^32. -/

namespace Sys2Proof

/-- A 32-bit unsigned bit vector: register value, pc, address or instruction word (R10). -/
abbrev Word := BitVec 32

/-- One byte of memory (R32, R50). -/
abbrev Byte := BitVec 8

/-- A register field of an instruction word, 0 to 31: any value names a register (R81, R94). -/
abbrev RegIdx := BitVec 5

end Sys2Proof
end

