-- ==== Sys2Proof/Syntax.lean ====
section
/-! DEFINITION. The syntax of RVEMU-CORE: the six format types (30_encoding.md R81 to R88), the classifier's result (R100, R105) and the
instructions, one constructor for each row of spec/opcode_table.json. -/

namespace Sys2Proof

/-- A word decoded as R-type (R81): the value carries the whole word (R105). Its accessors are those of R87's row, and no others. -/
structure RWord where
  word : Word
  deriving DecidableEq, Repr

/-- A word decoded as I-type (R82). -/
structure IWord where
  word : Word
  deriving DecidableEq, Repr

/-- A word decoded as S-type (R83). -/
structure SWord where
  word : Word
  deriving DecidableEq, Repr

/-- A word decoded as B-type (R84). -/
structure BWord where
  word : Word
  deriving DecidableEq, Repr

/-- A word decoded as U-type (R85). -/
structure UWord where
  word : Word
  deriving DecidableEq, Repr

/-- A word decoded as J-type (R86). -/
structure JWord where
  word : Word
  deriving DecidableEq, Repr

/-- The classifier's result (R100): one of eight values, each carrying the whole word. The two sentinels have no field accessor (R87, R105). -/
inductive Decoded where
  | r (x : RWord)
  | i (x : IWord)
  | s (x : SWord)
  | b (x : BWord)
  | u (x : UWord)
  | j (x : JWord)
  | syscall (w : Word)
  | unrecognized (w : Word)
  deriving DecidableEq, Repr

/-- The eight kinds of a decoded value, without the word (R14 "format tag", R100). -/
inductive FormatTag where
  | r | i | s | b | u | j | syscall | unrecognized
  deriving DecidableEq, Repr

/-- The instructions: one constructor for each row of spec/opcode_table.json, in the table's order. `rd`, `rs1`, `rs2` are the
register fields, `imm` is the decoded 32-bit immediate of the row's format (R89 to R93, D22), and `funct3`, `funct7` stand only in
the rows that leave them open. -/
inductive Instr where
  -- class OP (R-type, opcode 0110011): ADD, and every other OP word (R140, R141)
  | add (rd rs1 rs2 : RegIdx)
  | sub (rd rs1 rs2 : RegIdx)
  | sll (rd rs1 rs2 : RegIdx)
  | slt (rd rs1 rs2 : RegIdx)
  | sltu (rd rs1 rs2 : RegIdx)
  | xor (rd rs1 rs2 : RegIdx)
  | srl (rd rs1 rs2 : RegIdx)
  | sra (rd rs1 rs2 : RegIdx)
  | or (rd rs1 rs2 : RegIdx)
  | and (rd rs1 rs2 : RegIdx)
  | mul (rd rs1 rs2 : RegIdx)
  | mulh (rd rs1 rs2 : RegIdx)
  | mulhsu (rd rs1 rs2 : RegIdx)
  | mulhu (rd rs1 rs2 : RegIdx)
  | div (rd rs1 rs2 : RegIdx)
  | divu (rd rs1 rs2 : RegIdx)
  | rem (rd rs1 rs2 : RegIdx)
  | remu (rd rs1 rs2 : RegIdx)
  | opOther (funct7 : BitVec 7) (funct3 : BitVec 3) (rd rs1 rs2 : RegIdx)
  -- class OP-IMM (I-type, opcode 0010011, R150)
  | addi (rd rs1 : RegIdx) (imm : Word)
  | slti (rd rs1 : RegIdx) (imm : Word)
  | sltiu (rd rs1 : RegIdx) (imm : Word)
  | xori (rd rs1 : RegIdx) (imm : Word)
  | ori (rd rs1 : RegIdx) (imm : Word)
  | andi (rd rs1 : RegIdx) (imm : Word)
  | slli (rd rs1 : RegIdx) (imm : Word)
  | srli (rd rs1 : RegIdx) (imm : Word)
  | srai (rd rs1 : RegIdx) (imm : Word)
  | opImmOther (funct3 : BitVec 3) (rd rs1 : RegIdx) (imm : Word)
  -- LUI and AUIPC (U-type, R151, R152)
  | lui (rd : RegIdx) (imm : Word)
  | auipc (rd : RegIdx) (imm : Word)
  -- class LOAD (I-type, opcode 0000011, R160)
  | lb (rd rs1 : RegIdx) (imm : Word)
  | lh (rd rs1 : RegIdx) (imm : Word)
  | lw (rd rs1 : RegIdx) (imm : Word)
  | lbu (rd rs1 : RegIdx) (imm : Word)
  | lhu (rd rs1 : RegIdx) (imm : Word)
  | loadReserved (funct3 : BitVec 3) (rd rs1 : RegIdx) (imm : Word)
  -- class STORE (S-type, opcode 0100011, R161)
  | sb (rs1 rs2 : RegIdx) (imm : Word)
  | sh (rs1 rs2 : RegIdx) (imm : Word)
  | sw (rs1 rs2 : RegIdx) (imm : Word)
  | storeReserved (funct3 : BitVec 3) (rs1 rs2 : RegIdx) (imm : Word)
  -- class BRANCH (B-type, opcode 1100011, R170)
  | beq (rs1 rs2 : RegIdx) (imm : Word)
  | bne (rs1 rs2 : RegIdx) (imm : Word)
  | blt (rs1 rs2 : RegIdx) (imm : Word)
  | bge (rs1 rs2 : RegIdx) (imm : Word)
  | bltu (rs1 rs2 : RegIdx) (imm : Word)
  | bgeu (rs1 rs2 : RegIdx) (imm : Word)
  | branchReserved (funct3 : BitVec 3) (rs1 rs2 : RegIdx) (imm : Word)
  -- JAL (J-type, R171) and the class JALR (I-type, opcode 1100111, R172)
  | jal (rd : RegIdx) (imm : Word)
  | jalr (rd rs1 : RegIdx) (imm : Word)
  | jalrReserved (funct3 : BitVec 3) (rd rs1 : RegIdx) (imm : Word)
  -- class SYSTEM (opcode 1110011, R180): no fields; an open row carries its word
  | ecall
  | ebreak
  | csrrw (w : Word)
  | csrrs (w : Word)
  | csrrc (w : Word)
  | csrrwi (w : Word)
  | csrrsi (w : Word)
  | csrrci (w : Word)
  | systemOther (w : Word)
  -- class MISC-MEM (I-type, opcode 0001111, R181)
  | fence (rd rs1 : RegIdx) (imm : Word)
  | fenceI (rd rs1 : RegIdx) (imm : Word)
  | miscMemOther (funct3 : BitVec 3) (rd rs1 : RegIdx) (imm : Word)
  -- no class (R102, R124): the word is carried whole
  | unrecognized (w : Word)
  deriving DecidableEq, Repr

/-- Why the byte decoder answers no instruction: there are fewer than the four bytes an instruction has (R80). No word is refused (R88). -/
inductive DecodeError where
  | truncated
  deriving DecidableEq, Repr

end Sys2Proof
end

