-- ==== Sys2Proof/Decode.lean ====
section
/-! DEFINITION. The decoder of RVEMU-CORE (30_encoding.md): fields and immediates (R81 to R94), the classifier (R100 to R103), the
decoder to instructions (total on every word, R88), the opcode table (R109), and after them the encoder. Every instruction is one
32-bit little-endian word (R80, R53). -/

namespace Sys2Proof

/-! ## Fields of a word -/

/-- `w[6:0]`, the opcode of every format (R87). -/
def opcodeOf (w : Word) : BitVec 7 := w.extractLsb' 0 7

/-- `w[11:7]` (R81). -/
def rdOf (w : Word) : RegIdx := w.extractLsb' 7 5

/-- `w[14:12]` (R81). -/
def funct3Of (w : Word) : BitVec 3 := w.extractLsb' 12 3

/-- `w[19:15]` (R81). -/
def rs1Of (w : Word) : RegIdx := w.extractLsb' 15 5

/-- `w[24:20]` (R81). -/
def rs2Of (w : Word) : RegIdx := w.extractLsb' 20 5

/-- `w[31:25]` (R81). -/
def funct7Of (w : Word) : BitVec 7 := w.extractLsb' 25 7

/-- `imm_I(w) = sext_12(w[31:20])` (R82, R89; C4: the sign is bit 31). -/
def immI (w : Word) : Word := (w.extractLsb' 20 12).signExtend 32

/-- `imm_S(w) = sext_12(w[31:25] ++ w[11:7])` (R83, R90). -/
def immS (w : Word) : Word := (w.extractLsb' 25 7 ++ w.extractLsb' 7 5).signExtend 32

/-- `imm_B(w) = sext_13(w[31] ++ w[7] ++ w[30:25] ++ w[11:8] ++ 0)` (R84, R91). The places of the bits are the spec's, which marks
them as general knowledge (G2; log 10); conflict C2 keeps them against the source's example. -/
def immB (w : Word) : Word :=
  (w.extractLsb' 31 1 ++ w.extractLsb' 7 1 ++ w.extractLsb' 25 6 ++ w.extractLsb' 8 4 ++ 0#1).signExtend 32

/-- `imm_U(w) = w[31:12] ++ 0b000000000000` (R85, R92): not sign-extended. -/
def immU (w : Word) : Word := w.extractLsb' 12 20 ++ 0#12

/-- `imm_J(w) = sext_21(w[31] ++ w[19:12] ++ w[20] ++ w[30:21] ++ 0)` (R86, R93; G3, log 10). -/
def immJ (w : Word) : Word :=
  (w.extractLsb' 31 1 ++ w.extractLsb' 12 8 ++ w.extractLsb' 20 1 ++ w.extractLsb' 21 10 ++ 0#1).signExtend 32

/-! ## The accessors of each format: the rows of R87, and no others -/

def RWord.opcode (x : RWord) : BitVec 7 := opcodeOf x.word
def RWord.rd (x : RWord) : RegIdx := rdOf x.word
def RWord.funct3 (x : RWord) : BitVec 3 := funct3Of x.word
def RWord.rs1 (x : RWord) : RegIdx := rs1Of x.word
def RWord.rs2 (x : RWord) : RegIdx := rs2Of x.word
def RWord.funct7 (x : RWord) : BitVec 7 := funct7Of x.word

def IWord.opcode (x : IWord) : BitVec 7 := opcodeOf x.word
def IWord.rd (x : IWord) : RegIdx := rdOf x.word
def IWord.funct3 (x : IWord) : BitVec 3 := funct3Of x.word
def IWord.rs1 (x : IWord) : RegIdx := rs1Of x.word
def IWord.imm (x : IWord) : Word := immI x.word

def SWord.opcode (x : SWord) : BitVec 7 := opcodeOf x.word
def SWord.funct3 (x : SWord) : BitVec 3 := funct3Of x.word
def SWord.rs1 (x : SWord) : RegIdx := rs1Of x.word
def SWord.rs2 (x : SWord) : RegIdx := rs2Of x.word
def SWord.imm (x : SWord) : Word := immS x.word

def BWord.opcode (x : BWord) : BitVec 7 := opcodeOf x.word
def BWord.funct3 (x : BWord) : BitVec 3 := funct3Of x.word
def BWord.rs1 (x : BWord) : RegIdx := rs1Of x.word
def BWord.rs2 (x : BWord) : RegIdx := rs2Of x.word
def BWord.imm (x : BWord) : Word := immB x.word

def UWord.opcode (x : UWord) : BitVec 7 := opcodeOf x.word
def UWord.rd (x : UWord) : RegIdx := rdOf x.word
def UWord.imm (x : UWord) : Word := immU x.word

def JWord.opcode (x : JWord) : BitVec 7 := opcodeOf x.word
def JWord.rd (x : JWord) : RegIdx := rdOf x.word
def JWord.imm (x : JWord) : Word := immJ x.word

/-- The whole word a decoded value carries (R105). -/
def Decoded.word : Decoded → Word
  | .r x => x.word
  | .i x => x.word
  | .s x => x.word
  | .b x => x.word
  | .u x => x.word
  | .j x => x.word
  | .syscall w => w
  | .unrecognized w => w

/-- The tag of a decoded value (R14, R100). -/
def Decoded.tag : Decoded → FormatTag
  | .r _ => .r
  | .i _ => .i
  | .s _ => .s
  | .b _ => .b
  | .u _ => .u
  | .j _ => .j
  | .syscall _ => .syscall
  | .unrecognized _ => .unrecognized

/-! ## The classifier -/

/-- The eleven opcode values of R101 (marked there as general knowledge, D4, G4; log 10). -/
abbrev opcodeOp : BitVec 7 := 0b0110011#7
abbrev opcodeOpImm : BitVec 7 := 0b0010011#7
abbrev opcodeLoad : BitVec 7 := 0b0000011#7
abbrev opcodeJalr : BitVec 7 := 0b1100111#7
abbrev opcodeMiscMem : BitVec 7 := 0b0001111#7
abbrev opcodeStore : BitVec 7 := 0b0100011#7
abbrev opcodeBranch : BitVec 7 := 0b1100011#7
abbrev opcodeLui : BitVec 7 := 0b0110111#7
abbrev opcodeAuipc : BitVec 7 := 0b0010111#7
abbrev opcodeJal : BitVec 7 := 0b1101111#7
abbrev opcodeSystem : BitVec 7 := 0b1110011#7

/-- The recognized opcodes, in R101's order. -/
def recognizedOpcodes : List (BitVec 7) :=
  [opcodeOp, opcodeOpImm, opcodeLoad, opcodeJalr, opcodeMiscMem, opcodeStore, opcodeBranch, opcodeLui, opcodeAuipc, opcodeJal, opcodeSystem]

/-- The classifier (R100 to R103): a total function that tests bits [6:0] only. -/
def classify (w : Word) : Decoded :=
  if opcodeOf w = opcodeOp then .r ⟨w⟩
  else if opcodeOf w = opcodeOpImm then .i ⟨w⟩
  else if opcodeOf w = opcodeLoad then .i ⟨w⟩
  else if opcodeOf w = opcodeJalr then .i ⟨w⟩
  else if opcodeOf w = opcodeMiscMem then .i ⟨w⟩
  else if opcodeOf w = opcodeStore then .s ⟨w⟩
  else if opcodeOf w = opcodeBranch then .b ⟨w⟩
  else if opcodeOf w = opcodeLui then .u ⟨w⟩
  else if opcodeOf w = opcodeAuipc then .u ⟨w⟩
  else if opcodeOf w = opcodeJal then .j ⟨w⟩
  else if opcodeOf w = opcodeSystem then .syscall w
  else .unrecognized w

/-! ## From a classified word to its row of the opcode table -/

/-- The rows of class OP (R140, R141): ADD first, then the named rows, then any other funct3 and funct7. -/
def decodeOp (x : RWord) : Instr :=
  if x.funct7 = 0b0000000#7 then
    if x.funct3 = 0b000#3 then .add x.rd x.rs1 x.rs2
    else if x.funct3 = 0b001#3 then .sll x.rd x.rs1 x.rs2
    else if x.funct3 = 0b010#3 then .slt x.rd x.rs1 x.rs2
    else if x.funct3 = 0b011#3 then .sltu x.rd x.rs1 x.rs2
    else if x.funct3 = 0b100#3 then .xor x.rd x.rs1 x.rs2
    else if x.funct3 = 0b101#3 then .srl x.rd x.rs1 x.rs2
    else if x.funct3 = 0b110#3 then .or x.rd x.rs1 x.rs2
    else .and x.rd x.rs1 x.rs2
  else if x.funct7 = 0b0000001#7 then
    if x.funct3 = 0b000#3 then .mul x.rd x.rs1 x.rs2
    else if x.funct3 = 0b001#3 then .mulh x.rd x.rs1 x.rs2
    else if x.funct3 = 0b010#3 then .mulhsu x.rd x.rs1 x.rs2
    else if x.funct3 = 0b011#3 then .mulhu x.rd x.rs1 x.rs2
    else if x.funct3 = 0b100#3 then .div x.rd x.rs1 x.rs2
    else if x.funct3 = 0b101#3 then .divu x.rd x.rs1 x.rs2
    else if x.funct3 = 0b110#3 then .rem x.rd x.rs1 x.rs2
    else .remu x.rd x.rs1 x.rs2
  else if x.funct7 = 0b0100000#7 ∧ x.funct3 = 0b000#3 then .sub x.rd x.rs1 x.rs2
  else if x.funct7 = 0b0100000#7 ∧ x.funct3 = 0b101#3 then .sra x.rd x.rs1 x.rs2
  else .opOther x.funct7 x.funct3 x.rd x.rs1 x.rs2

/-- The rows of class OP-IMM (R150). The shifts test imm[11:5], the word's bits [31:25]. -/
def decodeOpImm (x : IWord) : Instr :=
  if x.funct3 = 0b000#3 then .addi x.rd x.rs1 x.imm
  else if x.funct3 = 0b010#3 then .slti x.rd x.rs1 x.imm
  else if x.funct3 = 0b011#3 then .sltiu x.rd x.rs1 x.imm
  else if x.funct3 = 0b100#3 then .xori x.rd x.rs1 x.imm
  else if x.funct3 = 0b110#3 then .ori x.rd x.rs1 x.imm
  else if x.funct3 = 0b111#3 then .andi x.rd x.rs1 x.imm
  else if x.funct3 = 0b001#3 ∧ x.imm.extractLsb' 5 7 = 0b0000000#7 then .slli x.rd x.rs1 x.imm
  else if x.funct3 = 0b101#3 ∧ x.imm.extractLsb' 5 7 = 0b0000000#7 then .srli x.rd x.rs1 x.imm
  else if x.funct3 = 0b101#3 ∧ x.imm.extractLsb' 5 7 = 0b0100000#7 then .srai x.rd x.rs1 x.imm
  else .opImmOther x.funct3 x.rd x.rs1 x.imm

/-- The rows of class LOAD (R160). -/
def decodeLoad (x : IWord) : Instr :=
  if x.funct3 = 0b000#3 then .lb x.rd x.rs1 x.imm
  else if x.funct3 = 0b001#3 then .lh x.rd x.rs1 x.imm
  else if x.funct3 = 0b010#3 then .lw x.rd x.rs1 x.imm
  else if x.funct3 = 0b100#3 then .lbu x.rd x.rs1 x.imm
  else if x.funct3 = 0b101#3 then .lhu x.rd x.rs1 x.imm
  else .loadReserved x.funct3 x.rd x.rs1 x.imm

/-- The rows of class JALR (R172). -/
def decodeJalr (x : IWord) : Instr :=
  if x.funct3 = 0b000#3 then .jalr x.rd x.rs1 x.imm
  else .jalrReserved x.funct3 x.rd x.rs1 x.imm

/-- The rows of class MISC-MEM (R181). -/
def decodeMiscMem (x : IWord) : Instr :=
  if x.funct3 = 0b000#3 then .fence x.rd x.rs1 x.imm
  else if x.funct3 = 0b001#3 then .fenceI x.rd x.rs1 x.imm
  else .miscMemOther x.funct3 x.rd x.rs1 x.imm

/-- The four I-type classes, told apart by their opcode (R101, R125). -/
def decodeI (x : IWord) : Instr :=
  if x.opcode = opcodeOpImm then decodeOpImm x
  else if x.opcode = opcodeLoad then decodeLoad x
  else if x.opcode = opcodeJalr then decodeJalr x
  else decodeMiscMem x

/-- The rows of class STORE (R161). -/
def decodeStore (x : SWord) : Instr :=
  if x.funct3 = 0b000#3 then .sb x.rs1 x.rs2 x.imm
  else if x.funct3 = 0b001#3 then .sh x.rs1 x.rs2 x.imm
  else if x.funct3 = 0b010#3 then .sw x.rs1 x.rs2 x.imm
  else .storeReserved x.funct3 x.rs1 x.rs2 x.imm

/-- The rows of class BRANCH (R170). -/
def decodeBranch (x : BWord) : Instr :=
  if x.funct3 = 0b000#3 then .beq x.rs1 x.rs2 x.imm
  else if x.funct3 = 0b001#3 then .bne x.rs1 x.rs2 x.imm
  else if x.funct3 = 0b100#3 then .blt x.rs1 x.rs2 x.imm
  else if x.funct3 = 0b101#3 then .bge x.rs1 x.rs2 x.imm
  else if x.funct3 = 0b110#3 then .bltu x.rs1 x.rs2 x.imm
  else if x.funct3 = 0b111#3 then .bgeu x.rs1 x.rs2 x.imm
  else .branchReserved x.funct3 x.rs1 x.rs2 x.imm

/-- The two U-type classes (R151, R152). -/
def decodeU (x : UWord) : Instr :=
  if x.opcode = opcodeLui then .lui x.rd x.imm
  else .auipc x.rd x.imm

/-- The one J-type class (R171). -/
def decodeJ (x : JWord) : Instr := .jal x.rd x.imm

/-- The rows of class SYSTEM (R180), told apart by the word itself: the sentinel has no accessor. -/
def decodeSystem (w : Word) : Instr :=
  if w = 0x00000073#32 then .ecall
  else if w = 0x00100073#32 then .ebreak
  else if funct3Of w = 0b001#3 then .csrrw w
  else if funct3Of w = 0b010#3 then .csrrs w
  else if funct3Of w = 0b011#3 then .csrrc w
  else if funct3Of w = 0b101#3 then .csrrwi w
  else if funct3Of w = 0b110#3 then .csrrsi w
  else if funct3Of w = 0b111#3 then .csrrci w
  else .systemOther w

/-- The decoder: the row of spec/opcode_table.json that a word falls under, with its fields. Total, and it refuses no word (R88, R100). -/
def decode (w : Word) : Instr :=
  match classify w with
  | .r x => decodeOp x
  | .i x => decodeI x
  | .s x => decodeStore x
  | .b x => decodeBranch x
  | .u x => decodeU x
  | .j x => decodeJ x
  | .syscall v => decodeSystem v
  | .unrecognized v => .unrecognized v

/-! ## Bytes and words -/

/-- `b3 ++ b2 ++ b1 ++ b0`: the little-endian reading of four bytes, lowest address first (R53, R55, R74). -/
def wordOfBytes (b0 b1 b2 b3 : Byte) : Word := b3 ++ b2 ++ b1 ++ b0

/-- The four bytes of a word, lowest address first: byte k is bits 8k+7 to 8k (R61, R74). -/
def wordBytes (w : Word) : List Byte :=
  [w.extractLsb' 0 8, w.extractLsb' 8 8, w.extractLsb' 16 8, w.extractLsb' 24 8]

/-- The decoder on bytes: one instruction, always four bytes long (R80), and the rest. -/
def decodeBytes : List Byte → Except DecodeError (Instr × List Byte)
  | b0 :: b1 :: b2 :: b3 :: rest => .ok (decode (wordOfBytes b0 b1 b2 b3), rest)
  | _ => .error .truncated

/-- What the decoder reads from an instruction whose bits, numbered as spec/opcode_table.json numbers them, are the low `nbits` bits of
`w` (every bit above them zero), laid out in memory as the hardware stores it. -/
def decodeTableWord (nbits w : Nat) : Option Instr :=
  match decodeBytes (wordBytes (BitVec.ofNat 32 (w % 2 ^ nbits))) with
  | .ok (i, _) => some i
  | .error _ => none

/-! ## The encoder -/

/-- R-type layout (R81). -/
def encodeR (funct7 : BitVec 7) (rs2 rs1 : RegIdx) (funct3 : BitVec 3) (rd : RegIdx) (opcode : BitVec 7) : Word :=
  funct7 ++ rs2 ++ rs1 ++ funct3 ++ rd ++ opcode

/-- I-type layout (R82). -/
def encodeI (imm : Word) (rs1 : RegIdx) (funct3 : BitVec 3) (rd : RegIdx) (opcode : BitVec 7) : Word :=
  imm.extractLsb' 0 12 ++ rs1 ++ funct3 ++ rd ++ opcode

/-- S-type layout (R83). -/
def encodeS (imm : Word) (rs2 rs1 : RegIdx) (funct3 : BitVec 3) (opcode : BitVec 7) : Word :=
  imm.extractLsb' 5 7 ++ rs2 ++ rs1 ++ funct3 ++ imm.extractLsb' 0 5 ++ opcode

/-- B-type layout (R84). -/
def encodeB (imm : Word) (rs2 rs1 : RegIdx) (funct3 : BitVec 3) (opcode : BitVec 7) : Word :=
  imm.extractLsb' 12 1 ++ imm.extractLsb' 5 6 ++ rs2 ++ rs1 ++ funct3 ++ imm.extractLsb' 1 4 ++ imm.extractLsb' 11 1 ++ opcode

/-- U-type layout (R85). -/
def encodeU (imm : Word) (rd : RegIdx) (opcode : BitVec 7) : Word :=
  imm.extractLsb' 12 20 ++ rd ++ opcode

/-- J-type layout (R86). -/
def encodeJ (imm : Word) (rd : RegIdx) (opcode : BitVec 7) : Word :=
  imm.extractLsb' 20 1 ++ imm.extractLsb' 1 10 ++ imm.extractLsb' 11 1 ++ imm.extractLsb' 12 8 ++ rd ++ opcode

/-- The encoder: the word of a well-formed instruction, from the layouts of R81 to R86 and the fixed fields of the opcode table. -/
def encode : Instr → Word
  | .add rd rs1 rs2 => encodeR 0b0000000#7 rs2 rs1 0b000#3 rd opcodeOp
  | .sub rd rs1 rs2 => encodeR 0b0100000#7 rs2 rs1 0b000#3 rd opcodeOp
  | .sll rd rs1 rs2 => encodeR 0b0000000#7 rs2 rs1 0b001#3 rd opcodeOp
  | .slt rd rs1 rs2 => encodeR 0b0000000#7 rs2 rs1 0b010#3 rd opcodeOp
  | .sltu rd rs1 rs2 => encodeR 0b0000000#7 rs2 rs1 0b011#3 rd opcodeOp
  | .xor rd rs1 rs2 => encodeR 0b0000000#7 rs2 rs1 0b100#3 rd opcodeOp
  | .srl rd rs1 rs2 => encodeR 0b0000000#7 rs2 rs1 0b101#3 rd opcodeOp
  | .sra rd rs1 rs2 => encodeR 0b0100000#7 rs2 rs1 0b101#3 rd opcodeOp
  | .or rd rs1 rs2 => encodeR 0b0000000#7 rs2 rs1 0b110#3 rd opcodeOp
  | .and rd rs1 rs2 => encodeR 0b0000000#7 rs2 rs1 0b111#3 rd opcodeOp
  | .mul rd rs1 rs2 => encodeR 0b0000001#7 rs2 rs1 0b000#3 rd opcodeOp
  | .mulh rd rs1 rs2 => encodeR 0b0000001#7 rs2 rs1 0b001#3 rd opcodeOp
  | .mulhsu rd rs1 rs2 => encodeR 0b0000001#7 rs2 rs1 0b010#3 rd opcodeOp
  | .mulhu rd rs1 rs2 => encodeR 0b0000001#7 rs2 rs1 0b011#3 rd opcodeOp
  | .div rd rs1 rs2 => encodeR 0b0000001#7 rs2 rs1 0b100#3 rd opcodeOp
  | .divu rd rs1 rs2 => encodeR 0b0000001#7 rs2 rs1 0b101#3 rd opcodeOp
  | .rem rd rs1 rs2 => encodeR 0b0000001#7 rs2 rs1 0b110#3 rd opcodeOp
  | .remu rd rs1 rs2 => encodeR 0b0000001#7 rs2 rs1 0b111#3 rd opcodeOp
  | .opOther funct7 funct3 rd rs1 rs2 => encodeR funct7 rs2 rs1 funct3 rd opcodeOp
  | .addi rd rs1 imm => encodeI imm rs1 0b000#3 rd opcodeOpImm
  | .slti rd rs1 imm => encodeI imm rs1 0b010#3 rd opcodeOpImm
  | .sltiu rd rs1 imm => encodeI imm rs1 0b011#3 rd opcodeOpImm
  | .xori rd rs1 imm => encodeI imm rs1 0b100#3 rd opcodeOpImm
  | .ori rd rs1 imm => encodeI imm rs1 0b110#3 rd opcodeOpImm
  | .andi rd rs1 imm => encodeI imm rs1 0b111#3 rd opcodeOpImm
  | .slli rd rs1 imm => encodeI imm rs1 0b001#3 rd opcodeOpImm
  | .srli rd rs1 imm => encodeI imm rs1 0b101#3 rd opcodeOpImm
  | .srai rd rs1 imm => encodeI imm rs1 0b101#3 rd opcodeOpImm
  | .opImmOther funct3 rd rs1 imm => encodeI imm rs1 funct3 rd opcodeOpImm
  | .lui rd imm => encodeU imm rd opcodeLui
  | .auipc rd imm => encodeU imm rd opcodeAuipc
  | .lb rd rs1 imm => encodeI imm rs1 0b000#3 rd opcodeLoad
  | .lh rd rs1 imm => encodeI imm rs1 0b001#3 rd opcodeLoad
  | .lw rd rs1 imm => encodeI imm rs1 0b010#3 rd opcodeLoad
  | .lbu rd rs1 imm => encodeI imm rs1 0b100#3 rd opcodeLoad
  | .lhu rd rs1 imm => encodeI imm rs1 0b101#3 rd opcodeLoad
  | .loadReserved funct3 rd rs1 imm => encodeI imm rs1 funct3 rd opcodeLoad
  | .sb rs1 rs2 imm => encodeS imm rs2 rs1 0b000#3 opcodeStore
  | .sh rs1 rs2 imm => encodeS imm rs2 rs1 0b001#3 opcodeStore
  | .sw rs1 rs2 imm => encodeS imm rs2 rs1 0b010#3 opcodeStore
  | .storeReserved funct3 rs1 rs2 imm => encodeS imm rs2 rs1 funct3 opcodeStore
  | .beq rs1 rs2 imm => encodeB imm rs2 rs1 0b000#3 opcodeBranch
  | .bne rs1 rs2 imm => encodeB imm rs2 rs1 0b001#3 opcodeBranch
  | .blt rs1 rs2 imm => encodeB imm rs2 rs1 0b100#3 opcodeBranch
  | .bge rs1 rs2 imm => encodeB imm rs2 rs1 0b101#3 opcodeBranch
  | .bltu rs1 rs2 imm => encodeB imm rs2 rs1 0b110#3 opcodeBranch
  | .bgeu rs1 rs2 imm => encodeB imm rs2 rs1 0b111#3 opcodeBranch
  | .branchReserved funct3 rs1 rs2 imm => encodeB imm rs2 rs1 funct3 opcodeBranch
  | .jal rd imm => encodeJ imm rd opcodeJal
  | .jalr rd rs1 imm => encodeI imm rs1 0b000#3 rd opcodeJalr
  | .jalrReserved funct3 rd rs1 imm => encodeI imm rs1 funct3 rd opcodeJalr
  | .ecall => 0x00000073#32
  | .ebreak => 0x00100073#32
  | .csrrw w => w
  | .csrrs w => w
  | .csrrc w => w
  | .csrrwi w => w
  | .csrrsi w => w
  | .csrrci w => w
  | .systemOther w => w
  | .fence rd rs1 imm => encodeI imm rs1 0b000#3 rd opcodeMiscMem
  | .fenceI rd rs1 imm => encodeI imm rs1 0b001#3 rd opcodeMiscMem
  | .miscMemOther funct3 rd rs1 imm => encodeI imm rs1 funct3 rd opcodeMiscMem
  | .unrecognized w => w

/-! ## The opcode table (R109) -/

/-- One row of spec/opcode_table.json: the words it takes are those with `w AND mask = pattern`. -/
structure TableRow where
  mnemonic : String
  pattern : Word
  mask : Word
  deriving DecidableEq, Repr

/-- Whether a word falls under a row, taken alone. -/
def TableRow.takes (r : TableRow) (w : Word) : Bool := w &&& r.mask == r.pattern

/-- The table's rows of class OP. -/
def opRows : List TableRow := [
  ⟨"ADD", 0x00000033#32, 0xFE00707F#32⟩,
  ⟨"SUB", 0x40000033#32, 0xFE00707F#32⟩,
  ⟨"SLL", 0x00001033#32, 0xFE00707F#32⟩,
  ⟨"SLT", 0x00002033#32, 0xFE00707F#32⟩,
  ⟨"SLTU", 0x00003033#32, 0xFE00707F#32⟩,
  ⟨"XOR", 0x00004033#32, 0xFE00707F#32⟩,
  ⟨"SRL", 0x00005033#32, 0xFE00707F#32⟩,
  ⟨"SRA", 0x40005033#32, 0xFE00707F#32⟩,
  ⟨"OR", 0x00006033#32, 0xFE00707F#32⟩,
  ⟨"AND", 0x00007033#32, 0xFE00707F#32⟩,
  ⟨"MUL", 0x02000033#32, 0xFE00707F#32⟩,
  ⟨"MULH", 0x02001033#32, 0xFE00707F#32⟩,
  ⟨"MULHSU", 0x02002033#32, 0xFE00707F#32⟩,
  ⟨"MULHU", 0x02003033#32, 0xFE00707F#32⟩,
  ⟨"DIV", 0x02004033#32, 0xFE00707F#32⟩,
  ⟨"DIVU", 0x02005033#32, 0xFE00707F#32⟩,
  ⟨"REM", 0x02006033#32, 0xFE00707F#32⟩,
  ⟨"REMU", 0x02007033#32, 0xFE00707F#32⟩,
  ⟨"OP__any_other_funct3_funct7", 0x00000033#32, 0x0000007F#32⟩]

/-- The table's rows of class OP-IMM. -/
def opImmRows : List TableRow := [
  ⟨"ADDI", 0x00000013#32, 0x0000707F#32⟩,
  ⟨"SLTI", 0x00002013#32, 0x0000707F#32⟩,
  ⟨"SLTIU", 0x00003013#32, 0x0000707F#32⟩,
  ⟨"XORI", 0x00004013#32, 0x0000707F#32⟩,
  ⟨"ORI", 0x00006013#32, 0x0000707F#32⟩,
  ⟨"ANDI", 0x00007013#32, 0x0000707F#32⟩,
  ⟨"SLLI", 0x00001013#32, 0xFE00707F#32⟩,
  ⟨"SRLI", 0x00005013#32, 0xFE00707F#32⟩,
  ⟨"SRAI", 0x40005013#32, 0xFE00707F#32⟩,
  ⟨"OP-IMM__any_other_funct3_imm_11_5", 0x00000013#32, 0x0000007F#32⟩]

/-- The table's rows of LUI and AUIPC. -/
def upperRows : List TableRow := [
  ⟨"LUI", 0x00000037#32, 0x0000007F#32⟩,
  ⟨"AUIPC", 0x00000017#32, 0x0000007F#32⟩]

/-- The table's rows of LOAD and STORE. -/
def loadStoreRows : List TableRow := [
  ⟨"LB", 0x00000003#32, 0x0000707F#32⟩,
  ⟨"LH", 0x00001003#32, 0x0000707F#32⟩,
  ⟨"LW", 0x00002003#32, 0x0000707F#32⟩,
  ⟨"LBU", 0x00004003#32, 0x0000707F#32⟩,
  ⟨"LHU", 0x00005003#32, 0x0000707F#32⟩,
  ⟨"LOAD__reserved_funct3_011__110__111", 0x00000003#32, 0x0000007F#32⟩,
  ⟨"SB", 0x00000023#32, 0x0000707F#32⟩,
  ⟨"SH", 0x00001023#32, 0x0000707F#32⟩,
  ⟨"SW", 0x00002023#32, 0x0000707F#32⟩,
  ⟨"STORE__reserved_funct3_011_to_111", 0x00000023#32, 0x0000007F#32⟩]

/-- The table's rows of BRANCH, JAL and JALR. -/
def controlRows : List TableRow := [
  ⟨"BEQ", 0x00000063#32, 0x0000707F#32⟩,
  ⟨"BNE", 0x00001063#32, 0x0000707F#32⟩,
  ⟨"BLT", 0x00004063#32, 0x0000707F#32⟩,
  ⟨"BGE", 0x00005063#32, 0x0000707F#32⟩,
  ⟨"BLTU", 0x00006063#32, 0x0000707F#32⟩,
  ⟨"BGEU", 0x00007063#32, 0x0000707F#32⟩,
  ⟨"BRANCH__reserved_funct3_010__011", 0x00000063#32, 0x0000007F#32⟩,
  ⟨"JAL", 0x0000006F#32, 0x0000007F#32⟩,
  ⟨"JALR", 0x00000067#32, 0x0000707F#32⟩,
  ⟨"JALR-class__reserved_funct3_001_to_111", 0x00000067#32, 0x0000007F#32⟩]

/-- The table's rows of SYSTEM and MISC-MEM. -/
def systemRows : List TableRow := [
  ⟨"ECALL", 0x00000073#32, 0xFFFFFFFF#32⟩,
  ⟨"EBREAK", 0x00100073#32, 0xFFFFFFFF#32⟩,
  ⟨"CSRRW", 0x00001073#32, 0x0000707F#32⟩,
  ⟨"CSRRS", 0x00002073#32, 0x0000707F#32⟩,
  ⟨"CSRRC", 0x00003073#32, 0x0000707F#32⟩,
  ⟨"CSRRWI", 0x00005073#32, 0x0000707F#32⟩,
  ⟨"CSRRSI", 0x00006073#32, 0x0000707F#32⟩,
  ⟨"CSRRCI", 0x00007073#32, 0x0000707F#32⟩,
  ⟨"SYSTEM__CSR_instructions_and_any_other_word", 0x00000073#32, 0x0000007F#32⟩,
  ⟨"FENCE", 0x0000000F#32, 0x0000707F#32⟩,
  ⟨"FENCE.I", 0x0000100F#32, 0x0000707F#32⟩,
  ⟨"MISC-MEM__any_other_funct3", 0x0000000F#32, 0x0000007F#32⟩]

/-- The table's rows of the row of every other word. -/
def unrecognizedRows : List TableRow := [
  ⟨"UNRECOGNIZED__every_other_opcode__117_values", 0x00000000#32, 0x00000000#32⟩]

/-- spec/opcode_table.json, row for row and in its order. -/
def opcodeTable : List TableRow :=
  opRows ++ opImmRows ++ upperRows ++ loadStoreRows ++ controlRows ++ systemRows ++ unrecognizedRows

/-- The first row of the table that takes the word (R109: "the first row that matches wins"). -/
def firstRow (w : Word) : Option TableRow := opcodeTable.find? (fun r => r.takes w)

/-- The table's name of an instruction, letter for letter. -/
def Instr.mnemonic : Instr → String
  | .add _ _ _ => "ADD"
  | .sub _ _ _ => "SUB"
  | .sll _ _ _ => "SLL"
  | .slt _ _ _ => "SLT"
  | .sltu _ _ _ => "SLTU"
  | .xor _ _ _ => "XOR"
  | .srl _ _ _ => "SRL"
  | .sra _ _ _ => "SRA"
  | .or _ _ _ => "OR"
  | .and _ _ _ => "AND"
  | .mul _ _ _ => "MUL"
  | .mulh _ _ _ => "MULH"
  | .mulhsu _ _ _ => "MULHSU"
  | .mulhu _ _ _ => "MULHU"
  | .div _ _ _ => "DIV"
  | .divu _ _ _ => "DIVU"
  | .rem _ _ _ => "REM"
  | .remu _ _ _ => "REMU"
  | .opOther _ _ _ _ _ => "OP__any_other_funct3_funct7"
  | .addi _ _ _ => "ADDI"
  | .slti _ _ _ => "SLTI"
  | .sltiu _ _ _ => "SLTIU"
  | .xori _ _ _ => "XORI"
  | .ori _ _ _ => "ORI"
  | .andi _ _ _ => "ANDI"
  | .slli _ _ _ => "SLLI"
  | .srli _ _ _ => "SRLI"
  | .srai _ _ _ => "SRAI"
  | .opImmOther _ _ _ _ => "OP-IMM__any_other_funct3_imm_11_5"
  | .lui _ _ => "LUI"
  | .auipc _ _ => "AUIPC"
  | .lb _ _ _ => "LB"
  | .lh _ _ _ => "LH"
  | .lw _ _ _ => "LW"
  | .lbu _ _ _ => "LBU"
  | .lhu _ _ _ => "LHU"
  | .loadReserved _ _ _ _ => "LOAD__reserved_funct3_011__110__111"
  | .sb _ _ _ => "SB"
  | .sh _ _ _ => "SH"
  | .sw _ _ _ => "SW"
  | .storeReserved _ _ _ _ => "STORE__reserved_funct3_011_to_111"
  | .beq _ _ _ => "BEQ"
  | .bne _ _ _ => "BNE"
  | .blt _ _ _ => "BLT"
  | .bge _ _ _ => "BGE"
  | .bltu _ _ _ => "BLTU"
  | .bgeu _ _ _ => "BGEU"
  | .branchReserved _ _ _ _ => "BRANCH__reserved_funct3_010__011"
  | .jal _ _ => "JAL"
  | .jalr _ _ _ => "JALR"
  | .jalrReserved _ _ _ _ => "JALR-class__reserved_funct3_001_to_111"
  | .ecall => "ECALL"
  | .ebreak => "EBREAK"
  | .csrrw _ => "CSRRW"
  | .csrrs _ => "CSRRS"
  | .csrrc _ => "CSRRC"
  | .csrrwi _ => "CSRRWI"
  | .csrrsi _ => "CSRRSI"
  | .csrrci _ => "CSRRCI"
  | .systemOther _ => "SYSTEM__CSR_instructions_and_any_other_word"
  | .fence _ _ _ => "FENCE"
  | .fenceI _ _ _ => "FENCE.I"
  | .miscMemOther _ _ _ _ => "MISC-MEM__any_other_funct3"
  | .unrecognized _ => "UNRECOGNIZED__every_other_opcode__117_values"

end Sys2Proof
end

