-- ==== Sys2Proof/Config.lean ====
section
/-! DEFINITION. The construction parameters of RVEMU-CORE (00_scope.md R7, R8; 10_state.md R35): the capacity of memory and the start
address. They are fixed at construction; the model carries them in `State.config` as data that no operation changes (log 3).
The spec leaves no value of any instruction open, so there is no free value here. -/

namespace Sys2Proof

/-- The configuration (R35). The start address is a 32-bit value; the capacity is a natural number of bytes, since it may be 2^32. -/
structure Config where
  /-- `MEM_CAPACITY`, in bytes (R7). -/
  memCapacity : Nat
  /-- `START_ADDRESS`, the address that init loads into the pc (R7, R120). -/
  startAddress : Word
  deriving DecidableEq, Repr

/-- The largest legal `MEM_CAPACITY` (R8). -/
def Config.maxCapacity : Nat := 2 ^ 32

/-- The configuration's range check on the construction arguments as given (R8, D13). -/
def Config.legalArguments (capacity start : Nat) : Bool :=
  decide (capacity ≤ Config.maxCapacity) && decide (start < 2 ^ 32)

/-- What R8 asks of a configuration that has been made: its start address is in range by its width. -/
def Config.legal (c : Config) : Bool := decide (c.memCapacity ≤ Config.maxCapacity)

/-- The configuration when the construction arguments are left out: 512 and 12 (R7, R8). -/
def Config.standard : Config := { memCapacity := 512, startAddress := 12#32 }

end Sys2Proof
end

