-- ==== Sys2Proof/Machine/State.lean ====
section
/-! DEFINITION. The state of RVEMU-CORE as plain data (10_state.md R20 to R36), the statuses its operations return (60_exceptions.md
R200), the reasons a step can stop, and the state after reset (R34, 70_reset_and_hazards.md R230). -/

namespace Sys2Proof.Machine

/-- The phase (R27): `Running` from the first init on. Only a step looks at it (R122). -/
inductive Phase where
  | uninitialized
  | running
  deriving DecidableEq, Repr

/-- The status an operation returns (R200). Each of the four errors carries the datum that identifies the failure (D21). -/
inductive Status where
  /-- The operation succeeded. -/
  | ok
  /-- A step fetched a word of no class (R201): the word. -/
  | unrecognizedOpcode (w : Word)
  /-- A step fetched a recognized word that is not ADD (R202): the word. -/
  | unimplementedInstruction (w : Word)
  /-- An access out of memory, at fetch or at a host port (R203): the start address of the access. -/
  | memoryFault (a : Word)
  /-- An index of 32 or more at the host register port (R204): the index. -/
  | invalidRegister (i : Nat)
  deriving DecidableEq, Repr

/-- The reasons a step can stop with a fault: there are none. Every error of this hardware is a status that an operation returns, and
after any status the next step runs from the state it left (R129, R205, R206, R239); so each is a next state (log 2). -/
inductive Fault where
  deriving DecidableEq, Repr

/-- The reasons an operation has no meaning (60_exceptions.md R218). -/
inductive Refusal where
  /-- Raised by no arm of this model: the form in which exec would reject an instruction that has no meaning yet. Safe: nothing can be
  proved of what it stops. -/
  | notModelled (mnemonic : String)
  /-- Raised by `step` while the phase is Uninitialized (R122, R218): the spec gives that step no meaning. Safe. -/
  | stepBeforeInit
  /-- Raised by `construct` for arguments out of range (R8, R218). Safe. -/
  | badConfiguration
  deriving DecidableEq, Repr

/-- Memory (R32, R50): the bytes that differ from what an unlisted address reads as, by address, in strictly rising order.
`Memory.wf` (Machine/Ops.lean) is the canonical form. -/
abbrev Memory := List Host.Cell

/-- The state of one instance of the block (R36), with its configuration (R35). `x0` has no cell (R22): `regs[k]` is x(k+1). -/
structure State where
  /-- `MEM_CAPACITY` and `START_ADDRESS` (R35): no operation changes them (log 3). -/
  config : Config
  /-- x1 to x31 (R20, R36). -/
  regs : Vector Word 31
  /-- The program counter, apart from the registers (R25). -/
  pc : Word
  /-- The phase (R27). -/
  phase : Phase
  /-- The byte memory (R32). -/
  mem : Memory
  /-- THE MODEL'S OWN FIELD: the status that the operation which led here returned (R200). No operation reads it (log 1). -/
  status : Status
  deriving DecidableEq, Repr

/-- The state that construction gives under a configuration (R34, R230): registers, memory and pc zero, Uninitialized. The status is
the construction's own (log 1). -/
def State.constructed (c : Config) : State :=
  { config := c, regs := Vector.replicate 31 0#32, pc := 0#32, phase := .uninitialized, mem := [], status := .ok }

/-- The machine right after reset: construction with the arguments left out, 512 and 12 (R7, R34, R230). -/
def State.reset : State := State.constructed Config.standard

end Sys2Proof.Machine
end

