-- ==== Sys2Proof/Machine/Ops.lean ====
section
/-! DEFINITION. The named operations of RVEMU-CORE: memory as plain storage (20_memory.md R50 to R57), the load/store unit's primitives,
returning a status (60_exceptions.md R206), finishing a fetched word (40_step_sequencer.md R127), and the shared meaning of every word
without semantics (R126). -/

namespace Sys2Proof.Machine

/-! ## Memory as storage -/

/-- What an address that nothing has written since reset reads as: memory is zero-filled (R52, R65). -/
def unlistedByte : Byte := 0x00#8

/-- The byte held at an address. -/
def Memory.read : Memory → Nat → Byte
  | [], _ => unlistedByte
  | (k, v) :: m, a => if k = a then v else Memory.read m a

/-- Write one byte, keeping the canonical form: writing what an unlisted address reads as removes the entry. -/
def Memory.write : Memory → Nat → Byte → Memory
  | [], a, b => if b = unlistedByte then [] else [(a, b)]
  | (k, v) :: m, a, b =>
    if a < k then if b = unlistedByte then (k, v) :: m else (a, b) :: (k, v) :: m
    else if a = k then if b = unlistedByte then m else (a, b) :: m
    else (k, v) :: Memory.write m a b

/-- Write bytes at rising addresses from `o` on (R60's loop). -/
def Memory.writeBytes : Memory → Nat → List Byte → Memory
  | m, _, [] => m
  | m, o, b :: bs => Memory.writeBytes (m.write o b) (o + 1) bs

/-- The canonical form of a memory: addresses strictly rising, no entry equal to what an unlisted address reads as. -/
abbrev Memory.wf (m : Memory) : Prop :=
  m.Pairwise (fun c d => c.1 < d.1) ∧ ∀ c ∈ m, c.2 ≠ unlistedByte

/-- Every listed address is below a bound. -/
abbrev Memory.below (m : Memory) (n : Nat) : Prop := ∀ c ∈ m, c.1 < n

/-! ## Bounds -/

/-- An access of `n` bytes at `a` is in range iff `a +ℕ n <= MEM_CAPACITY`, on unbounded naturals (R54, D14). -/
def inRange (c : Config) (a n : Nat) : Bool := decide (a + n ≤ c.memCapacity)

/-! ## The load/store unit (R55 to R57): `raise E` is `.error E` -/

/-- `MemRead(a, 4)` (R55): no partial read, little-endian, no alignment (R58). -/
def memRead32 (s : State) (a : Word) : Except Status Word :=
  if inRange s.config a.toNat 4 then
    .ok (wordOfBytes (s.mem.read a.toNat) (s.mem.read (a.toNat + 1)) (s.mem.read (a.toNat + 2)) (s.mem.read (a.toNat + 3)))
  else .error (.memoryFault a)

/-- `MemRead(a, 1)` (R56). -/
def memRead8 (s : State) (a : Word) : Except Status Byte :=
  if inRange s.config a.toNat 1 then .ok (s.mem.read a.toNat) else .error (.memoryFault a)

/-- `MemWrite(a, 1, b)` (R57), the only write primitive. -/
def memWrite8 (s : State) (a : Word) (b : Byte) : Except Status State :=
  if inRange s.config a.toNat 1 then .ok { s with mem := s.mem.write a.toNat b } else .error (.memoryFault a)

/-! ## Returning a status

This hardware takes no trap: "trap entry" means returning the status to the host, and nothing else (R206). So taking an exception is
`State.returns` (no state changes, as R203 and R204 say) or `State.retire` (the pc advances, as R201 and R202 say); there is no
return from an exception (R210). -/

/-- End an operation with a status and no other effect. -/
def State.returns (s : State) (st : Status) : State := { s with status := st }

/-- End the step of a fetched word: `pc <- a + 4` modulo 2^32, whatever the status (R127, R132). -/
def State.retire (s : State) (st : Status) : State := { s with pc := s.pc + 4#32, status := st }

/-- The execute stage of a recognized word with no semantics (R126, R202): it reports the word, and only the pc advances. -/
def unimplemented (w : Word) (s : State) : Host.Outcome State Fault Refusal :=
  .next (s.retire (.unimplementedInstruction w))

/-- The execute stage of a word of no class (R124, R201). -/
def unrecognizedOpcode (w : Word) (s : State) : Host.Outcome State Fault Refusal :=
  .next (s.retire (.unrecognizedOpcode w))

end Sys2Proof.Machine
end

