-- ==== Sys2Proof/Machine/AluImmediate.lean ====
section
/-! DEFINITION. The meanings of class OP-IMM, LUI and AUIPC (42_alu_immediate.md R150 to R152): none executes. Each reports
its word and advances the pc; no register is read or written. -/

namespace Sys2Proof.Machine

/-- ADDI (R150): it reports UnimplementedInstruction(word) and writes nothing but the pc (R126, R127). -/
def execAddi (rd rs1 : RegIdx) (imm : Word) (s : State) : Host.Outcome State Fault Refusal :=
  unimplemented (encode (.addi rd rs1 imm)) s

/-- SLTI (R150): it reports UnimplementedInstruction(word) and writes nothing but the pc (R126, R127). -/
def execSlti (rd rs1 : RegIdx) (imm : Word) (s : State) : Host.Outcome State Fault Refusal :=
  unimplemented (encode (.slti rd rs1 imm)) s

/-- SLTIU (R150): it reports UnimplementedInstruction(word) and writes nothing but the pc (R126, R127). -/
def execSltiu (rd rs1 : RegIdx) (imm : Word) (s : State) : Host.Outcome State Fault Refusal :=
  unimplemented (encode (.sltiu rd rs1 imm)) s

/-- XORI (R150): it reports UnimplementedInstruction(word) and writes nothing but the pc (R126, R127). -/
def execXori (rd rs1 : RegIdx) (imm : Word) (s : State) : Host.Outcome State Fault Refusal :=
  unimplemented (encode (.xori rd rs1 imm)) s

/-- ORI (R150): it reports UnimplementedInstruction(word) and writes nothing but the pc (R126, R127). -/
def execOri (rd rs1 : RegIdx) (imm : Word) (s : State) : Host.Outcome State Fault Refusal :=
  unimplemented (encode (.ori rd rs1 imm)) s

/-- ANDI (R150): it reports UnimplementedInstruction(word) and writes nothing but the pc (R126, R127). -/
def execAndi (rd rs1 : RegIdx) (imm : Word) (s : State) : Host.Outcome State Fault Refusal :=
  unimplemented (encode (.andi rd rs1 imm)) s

/-- SLLI (R150): it reports UnimplementedInstruction(word) and writes nothing but the pc (R126, R127). -/
def execSlli (rd rs1 : RegIdx) (imm : Word) (s : State) : Host.Outcome State Fault Refusal :=
  unimplemented (encode (.slli rd rs1 imm)) s

/-- SRLI (R150): it reports UnimplementedInstruction(word) and writes nothing but the pc (R126, R127). -/
def execSrli (rd rs1 : RegIdx) (imm : Word) (s : State) : Host.Outcome State Fault Refusal :=
  unimplemented (encode (.srli rd rs1 imm)) s

/-- SRAI (R150): it reports UnimplementedInstruction(word) and writes nothing but the pc (R126, R127). -/
def execSrai (rd rs1 : RegIdx) (imm : Word) (s : State) : Host.Outcome State Fault Refusal :=
  unimplemented (encode (.srai rd rs1 imm)) s

/-- Any other OP-IMM word: a shift funct3 with a reserved imm[11:5] (R150): it reports UnimplementedInstruction(word) and writes nothing but the pc (R126, R127). -/
def execOpImmOther (funct3 : BitVec 3) (rd rs1 : RegIdx) (imm : Word) (s : State) : Host.Outcome State Fault Refusal :=
  unimplemented (encode (.opImmOther funct3 rd rs1 imm)) s

/-- LUI (R151): it reports UnimplementedInstruction(word) and writes nothing but the pc (R126, R127). -/
def execLui (rd : RegIdx) (imm : Word) (s : State) : Host.Outcome State Fault Refusal :=
  unimplemented (encode (.lui rd imm)) s

/-- AUIPC (R152): it reports UnimplementedInstruction(word) and writes nothing but the pc (R126, R127). -/
def execAuipc (rd : RegIdx) (imm : Word) (s : State) : Host.Outcome State Fault Refusal :=
  unimplemented (encode (.auipc rd imm)) s

end Sys2Proof.Machine
end

