-- ==== Sys2Proof/Machine/Operands.lean ====
section
/-! DEFINITION. The operand form of RVEMU-CORE: a general register, `x[i]` and `x[i] <- v` (00_scope.md R11, 10_state.md R20 to R24).
No instruction that executes has an immediate or a memory operand (30_encoding.md R95, 43_load_store.md R163); the decoded immediates
are those of Decode.lean. -/

namespace Sys2Proof.Machine

/-- Read `x[i]`: x0 reads 0 (R22). -/
def State.readReg (s : State) (i : RegIdx) : Word :=
  if i = 0#5 then 0#32 else s.regs[i.toNat - 1]'(by have := i.isLt; omega)

/-- Write `x[i]`: a write to x0 is discarded (R22). -/
def State.writeReg (s : State) (i : RegIdx) (v : Word) : State :=
  if i = 0#5 then s else { s with regs := s.regs.set (i.toNat - 1) v (by have := i.isLt; omega) }

end Sys2Proof.Machine
end

