-- ==== Sys2Proof/Machine/AluRegister.lean ====
section
/-! DEFINITION. The meanings of class OP (41_alu_register.md R140 to R143): ADD executes; every other OP word is
recognized, writes nothing and reports UnimplementedInstruction(word); the word is the encoding of the instruction (log 12). -/

namespace Sys2Proof.Machine

/-- The ALU's one operation (R140, R142, R143): the sum modulo 2^32, the same for signed and unsigned operands. -/
def aluAdd (a b : Word) : Word := a + b

/-- ADD (R140): `x[rd] <- (x[rs1] + x[rs2]) mod 2^32`, both sources read first; status Ok. -/
def execAdd (rd rs1 rs2 : RegIdx) (s : State) : Host.Outcome State Fault Refusal :=
  .next ((s.writeReg rd (aluAdd (s.readReg rs1) (s.readReg rs2))).retire .ok)

/-- SUB (R141): it reports UnimplementedInstruction(word) and writes nothing but the pc (R126, R127). -/
def execSub (rd rs1 rs2 : RegIdx) (s : State) : Host.Outcome State Fault Refusal :=
  unimplemented (encode (.sub rd rs1 rs2)) s

/-- SLL (R141): it reports UnimplementedInstruction(word) and writes nothing but the pc (R126, R127). -/
def execSll (rd rs1 rs2 : RegIdx) (s : State) : Host.Outcome State Fault Refusal :=
  unimplemented (encode (.sll rd rs1 rs2)) s

/-- SLT (R141): it reports UnimplementedInstruction(word) and writes nothing but the pc (R126, R127). -/
def execSlt (rd rs1 rs2 : RegIdx) (s : State) : Host.Outcome State Fault Refusal :=
  unimplemented (encode (.slt rd rs1 rs2)) s

/-- SLTU (R141): it reports UnimplementedInstruction(word) and writes nothing but the pc (R126, R127). -/
def execSltu (rd rs1 rs2 : RegIdx) (s : State) : Host.Outcome State Fault Refusal :=
  unimplemented (encode (.sltu rd rs1 rs2)) s

/-- XOR (R141): it reports UnimplementedInstruction(word) and writes nothing but the pc (R126, R127). -/
def execXor (rd rs1 rs2 : RegIdx) (s : State) : Host.Outcome State Fault Refusal :=
  unimplemented (encode (.xor rd rs1 rs2)) s

/-- SRL (R141): it reports UnimplementedInstruction(word) and writes nothing but the pc (R126, R127). -/
def execSrl (rd rs1 rs2 : RegIdx) (s : State) : Host.Outcome State Fault Refusal :=
  unimplemented (encode (.srl rd rs1 rs2)) s

/-- SRA (R141): it reports UnimplementedInstruction(word) and writes nothing but the pc (R126, R127). -/
def execSra (rd rs1 rs2 : RegIdx) (s : State) : Host.Outcome State Fault Refusal :=
  unimplemented (encode (.sra rd rs1 rs2)) s

/-- OR (R141): it reports UnimplementedInstruction(word) and writes nothing but the pc (R126, R127). -/
def execOr (rd rs1 rs2 : RegIdx) (s : State) : Host.Outcome State Fault Refusal :=
  unimplemented (encode (.or rd rs1 rs2)) s

/-- AND (R141): it reports UnimplementedInstruction(word) and writes nothing but the pc (R126, R127). -/
def execAnd (rd rs1 rs2 : RegIdx) (s : State) : Host.Outcome State Fault Refusal :=
  unimplemented (encode (.and rd rs1 rs2)) s

/-- MUL (R141): it reports UnimplementedInstruction(word) and writes nothing but the pc (R126, R127). -/
def execMul (rd rs1 rs2 : RegIdx) (s : State) : Host.Outcome State Fault Refusal :=
  unimplemented (encode (.mul rd rs1 rs2)) s

/-- MULH (R141): it reports UnimplementedInstruction(word) and writes nothing but the pc (R126, R127). -/
def execMulh (rd rs1 rs2 : RegIdx) (s : State) : Host.Outcome State Fault Refusal :=
  unimplemented (encode (.mulh rd rs1 rs2)) s

/-- MULHSU (R141): it reports UnimplementedInstruction(word) and writes nothing but the pc (R126, R127). -/
def execMulhsu (rd rs1 rs2 : RegIdx) (s : State) : Host.Outcome State Fault Refusal :=
  unimplemented (encode (.mulhsu rd rs1 rs2)) s

/-- MULHU (R141): it reports UnimplementedInstruction(word) and writes nothing but the pc (R126, R127). -/
def execMulhu (rd rs1 rs2 : RegIdx) (s : State) : Host.Outcome State Fault Refusal :=
  unimplemented (encode (.mulhu rd rs1 rs2)) s

/-- DIV (R141): it reports UnimplementedInstruction(word) and writes nothing but the pc (R126, R127). -/
def execDiv (rd rs1 rs2 : RegIdx) (s : State) : Host.Outcome State Fault Refusal :=
  unimplemented (encode (.div rd rs1 rs2)) s

/-- DIVU (R141): it reports UnimplementedInstruction(word) and writes nothing but the pc (R126, R127). -/
def execDivu (rd rs1 rs2 : RegIdx) (s : State) : Host.Outcome State Fault Refusal :=
  unimplemented (encode (.divu rd rs1 rs2)) s

/-- REM (R141): it reports UnimplementedInstruction(word) and writes nothing but the pc (R126, R127). -/
def execRem (rd rs1 rs2 : RegIdx) (s : State) : Host.Outcome State Fault Refusal :=
  unimplemented (encode (.rem rd rs1 rs2)) s

/-- REMU (R141): it reports UnimplementedInstruction(word) and writes nothing but the pc (R126, R127). -/
def execRemu (rd rs1 rs2 : RegIdx) (s : State) : Host.Outcome State Fault Refusal :=
  unimplemented (encode (.remu rd rs1 rs2)) s

/-- Any other OP word: a funct3 and funct7 of no named row (R141): it reports UnimplementedInstruction(word) and writes nothing but the pc (R126, R127). -/
def execOpOther (funct7 : BitVec 7) (funct3 : BitVec 3) (rd rs1 rs2 : RegIdx) (s : State) : Host.Outcome State Fault Refusal :=
  unimplemented (encode (.opOther funct7 funct3 rd rs1 rs2)) s

end Sys2Proof.Machine
end

