-- ==== Sys2Proof/Machine/ControlTransfer.lean ====
section
/-! DEFINITION. The meanings of classes BRANCH, JAL and JALR (44_control_transfer.md R170 to R173): none executes. No
condition is evaluated, no target formed and no link written; each reports its word and advances the pc by 4. -/

namespace Sys2Proof.Machine

/-- BEQ (R170): it reports UnimplementedInstruction(word) and writes nothing but the pc (R126, R127). -/
def execBeq (rs1 rs2 : RegIdx) (imm : Word) (s : State) : Host.Outcome State Fault Refusal :=
  unimplemented (encode (.beq rs1 rs2 imm)) s

/-- BNE (R170): it reports UnimplementedInstruction(word) and writes nothing but the pc (R126, R127). -/
def execBne (rs1 rs2 : RegIdx) (imm : Word) (s : State) : Host.Outcome State Fault Refusal :=
  unimplemented (encode (.bne rs1 rs2 imm)) s

/-- BLT (R170): it reports UnimplementedInstruction(word) and writes nothing but the pc (R126, R127). -/
def execBlt (rs1 rs2 : RegIdx) (imm : Word) (s : State) : Host.Outcome State Fault Refusal :=
  unimplemented (encode (.blt rs1 rs2 imm)) s

/-- BGE (R170): it reports UnimplementedInstruction(word) and writes nothing but the pc (R126, R127). -/
def execBge (rs1 rs2 : RegIdx) (imm : Word) (s : State) : Host.Outcome State Fault Refusal :=
  unimplemented (encode (.bge rs1 rs2 imm)) s

/-- BLTU (R170): it reports UnimplementedInstruction(word) and writes nothing but the pc (R126, R127). -/
def execBltu (rs1 rs2 : RegIdx) (imm : Word) (s : State) : Host.Outcome State Fault Refusal :=
  unimplemented (encode (.bltu rs1 rs2 imm)) s

/-- BGEU (R170): it reports UnimplementedInstruction(word) and writes nothing but the pc (R126, R127). -/
def execBgeu (rs1 rs2 : RegIdx) (imm : Word) (s : State) : Host.Outcome State Fault Refusal :=
  unimplemented (encode (.bgeu rs1 rs2 imm)) s

/-- A BRANCH word with a reserved funct3 (R170): it reports UnimplementedInstruction(word) and writes nothing but the pc (R126, R127). -/
def execBranchReserved (funct3 : BitVec 3) (rs1 rs2 : RegIdx) (imm : Word) (s : State) : Host.Outcome State Fault Refusal :=
  unimplemented (encode (.branchReserved funct3 rs1 rs2 imm)) s

/-- JAL (R171): it reports UnimplementedInstruction(word) and writes nothing but the pc (R126, R127). -/
def execJal (rd : RegIdx) (imm : Word) (s : State) : Host.Outcome State Fault Refusal :=
  unimplemented (encode (.jal rd imm)) s

/-- JALR (R172): it reports UnimplementedInstruction(word) and writes nothing but the pc (R126, R127). -/
def execJalr (rd rs1 : RegIdx) (imm : Word) (s : State) : Host.Outcome State Fault Refusal :=
  unimplemented (encode (.jalr rd rs1 imm)) s

/-- A JALR-class word with a reserved funct3 (R172): it reports UnimplementedInstruction(word) and writes nothing but the pc (R126, R127). -/
def execJalrReserved (funct3 : BitVec 3) (rd rs1 : RegIdx) (imm : Word) (s : State) : Host.Outcome State Fault Refusal :=
  unimplemented (encode (.jalrReserved funct3 rd rs1 imm)) s

end Sys2Proof.Machine
end

