-- ==== Sys2Proof/Machine/LoadStore.lean ====
section
/-! DEFINITION. The meanings of classes LOAD and STORE (43_load_store.md R160 to R163): none executes. No address is formed,
no memory is accessed and no MemoryFault comes from one; each reports its word and advances the pc. -/

namespace Sys2Proof.Machine

/-- LB (R160): it reports UnimplementedInstruction(word) and writes nothing but the pc (R126, R127). -/
def execLb (rd rs1 : RegIdx) (imm : Word) (s : State) : Host.Outcome State Fault Refusal :=
  unimplemented (encode (.lb rd rs1 imm)) s

/-- LH (R160): it reports UnimplementedInstruction(word) and writes nothing but the pc (R126, R127). -/
def execLh (rd rs1 : RegIdx) (imm : Word) (s : State) : Host.Outcome State Fault Refusal :=
  unimplemented (encode (.lh rd rs1 imm)) s

/-- LW (R160): it reports UnimplementedInstruction(word) and writes nothing but the pc (R126, R127). -/
def execLw (rd rs1 : RegIdx) (imm : Word) (s : State) : Host.Outcome State Fault Refusal :=
  unimplemented (encode (.lw rd rs1 imm)) s

/-- LBU (R160): it reports UnimplementedInstruction(word) and writes nothing but the pc (R126, R127). -/
def execLbu (rd rs1 : RegIdx) (imm : Word) (s : State) : Host.Outcome State Fault Refusal :=
  unimplemented (encode (.lbu rd rs1 imm)) s

/-- LHU (R160): it reports UnimplementedInstruction(word) and writes nothing but the pc (R126, R127). -/
def execLhu (rd rs1 : RegIdx) (imm : Word) (s : State) : Host.Outcome State Fault Refusal :=
  unimplemented (encode (.lhu rd rs1 imm)) s

/-- A LOAD word with a reserved funct3 (R160): it reports UnimplementedInstruction(word) and writes nothing but the pc (R126, R127). -/
def execLoadReserved (funct3 : BitVec 3) (rd rs1 : RegIdx) (imm : Word) (s : State) : Host.Outcome State Fault Refusal :=
  unimplemented (encode (.loadReserved funct3 rd rs1 imm)) s

/-- SB (R161): it reports UnimplementedInstruction(word) and writes nothing but the pc (R126, R127). -/
def execSb (rs1 rs2 : RegIdx) (imm : Word) (s : State) : Host.Outcome State Fault Refusal :=
  unimplemented (encode (.sb rs1 rs2 imm)) s

/-- SH (R161): it reports UnimplementedInstruction(word) and writes nothing but the pc (R126, R127). -/
def execSh (rs1 rs2 : RegIdx) (imm : Word) (s : State) : Host.Outcome State Fault Refusal :=
  unimplemented (encode (.sh rs1 rs2 imm)) s

/-- SW (R161): it reports UnimplementedInstruction(word) and writes nothing but the pc (R126, R127). -/
def execSw (rs1 rs2 : RegIdx) (imm : Word) (s : State) : Host.Outcome State Fault Refusal :=
  unimplemented (encode (.sw rs1 rs2 imm)) s

/-- A STORE word with a reserved funct3 (R161): it reports UnimplementedInstruction(word) and writes nothing but the pc (R126, R127). -/
def execStoreReserved (funct3 : BitVec 3) (rs1 rs2 : RegIdx) (imm : Word) (s : State) : Host.Outcome State Fault Refusal :=
  unimplemented (encode (.storeReserved funct3 rs1 rs2 imm)) s

end Sys2Proof.Machine
end

