-- ==== Sys2Proof/Machine/System.lean ====
section
/-! DEFINITION. The meanings of classes SYSTEM and MISC-MEM (45_system.md R180 to R182), and of a word of no class
(40_step_sequencer.md R124): no trap, no CSR, no fence; each reports its word and advances the pc. -/

namespace Sys2Proof.Machine

/-- ECALL (R180): it reports UnimplementedInstruction(word) and writes nothing but the pc (R126, R127). -/
def execEcall (s : State) : Host.Outcome State Fault Refusal :=
  unimplemented (encode (.ecall)) s

/-- EBREAK (R180): it reports UnimplementedInstruction(word) and writes nothing but the pc (R126, R127). -/
def execEbreak (s : State) : Host.Outcome State Fault Refusal :=
  unimplemented (encode (.ebreak)) s

/-- CSRRW (R180): it reports UnimplementedInstruction(word) and writes nothing but the pc (R126, R127). -/
def execCsrrw (w : Word) (s : State) : Host.Outcome State Fault Refusal :=
  unimplemented (encode (.csrrw w)) s

/-- CSRRS (R180): it reports UnimplementedInstruction(word) and writes nothing but the pc (R126, R127). -/
def execCsrrs (w : Word) (s : State) : Host.Outcome State Fault Refusal :=
  unimplemented (encode (.csrrs w)) s

/-- CSRRC (R180): it reports UnimplementedInstruction(word) and writes nothing but the pc (R126, R127). -/
def execCsrrc (w : Word) (s : State) : Host.Outcome State Fault Refusal :=
  unimplemented (encode (.csrrc w)) s

/-- CSRRWI (R180): it reports UnimplementedInstruction(word) and writes nothing but the pc (R126, R127). -/
def execCsrrwi (w : Word) (s : State) : Host.Outcome State Fault Refusal :=
  unimplemented (encode (.csrrwi w)) s

/-- CSRRSI (R180): it reports UnimplementedInstruction(word) and writes nothing but the pc (R126, R127). -/
def execCsrrsi (w : Word) (s : State) : Host.Outcome State Fault Refusal :=
  unimplemented (encode (.csrrsi w)) s

/-- CSRRCI (R180): it reports UnimplementedInstruction(word) and writes nothing but the pc (R126, R127). -/
def execCsrrci (w : Word) (s : State) : Host.Outcome State Fault Refusal :=
  unimplemented (encode (.csrrci w)) s

/-- Any other SYSTEM word (MRET, SRET, WFI and SFENCE.VMA among them) (R180): it reports UnimplementedInstruction(word) and writes nothing but the pc (R126, R127). -/
def execSystemOther (w : Word) (s : State) : Host.Outcome State Fault Refusal :=
  unimplemented (encode (.systemOther w)) s

/-- FENCE (R181): it reports UnimplementedInstruction(word) and writes nothing but the pc (R126, R127). -/
def execFence (rd rs1 : RegIdx) (imm : Word) (s : State) : Host.Outcome State Fault Refusal :=
  unimplemented (encode (.fence rd rs1 imm)) s

/-- FENCE.I (R181): it reports UnimplementedInstruction(word) and writes nothing but the pc (R126, R127). -/
def execFenceI (rd rs1 : RegIdx) (imm : Word) (s : State) : Host.Outcome State Fault Refusal :=
  unimplemented (encode (.fenceI rd rs1 imm)) s

/-- Any other MISC-MEM word (R181): it reports UnimplementedInstruction(word) and writes nothing but the pc (R126, R127). -/
def execMiscMemOther (funct3 : BitVec 3) (rd rs1 : RegIdx) (imm : Word) (s : State) : Host.Outcome State Fault Refusal :=
  unimplemented (encode (.miscMemOther funct3 rd rs1 imm)) s

/-- A word whose opcode has no class (R102): it reports UnrecognizedOpcode(word) and writes nothing but the pc (R124, R127, R201). -/
def execUnrecognized (w : Word) (s : State) : Host.Outcome State Fault Refusal :=
  unrecognizedOpcode w s

end Sys2Proof.Machine
end

