-- ==== Sys2Proof/Machine/Sequencer.lean ====
section
/-! DEFINITION. The parts of the program-counter sequencer (40_step_sequencer.md): init (R120), fetch (R123), and the execute stage as
R125 writes it, on the classifier's value. `step` (Machine/Step.lean) dispatches on instructions instead; that the two agree is a
statement. -/

namespace Sys2Proof.Machine

/-- `INIT` (R120): `pc <- START_ADDRESS`, `phase <- Running`, status Ok, in either phase (D20); nothing else changes (R24). -/
def State.init (s : State) : State :=
  { s with pc := s.config.startAddress, phase := .running, status := .ok }

/-- Fetch (R123): the word at `pc`, or the status of the failed access; it reads memory as it stands (R71, D24). -/
def fetch (s : State) : Except Status Word := memRead32 s s.pc

/-- `execute(d)` as R125 writes it: what happens to the registers, and the status. The pc is not touched here (R121). -/
def execute (d : Decoded) (s : State) : State × Status :=
  match d with
  | .unrecognized w => (s, .unrecognizedOpcode w)
  | .r x =>
    if x.opcode = opcodeOp ∧ x.funct3 = 0b000#3 ∧ x.funct7 = 0b0000000#7 then
      (s.writeReg x.rd (aluAdd (s.readReg x.rs1) (s.readReg x.rs2)), .ok)
    else (s, .unimplementedInstruction x.word)
  | .i x => (s, .unimplementedInstruction x.word)
  | .s x => (s, .unimplementedInstruction x.word)
  | .b x => (s, .unimplementedInstruction x.word)
  | .u x => (s, .unimplementedInstruction x.word)
  | .j x => (s, .unimplementedInstruction x.word)
  | .syscall w => (s, .unimplementedInstruction w)

end Sys2Proof.Machine
end

