-- ==== Sys2Proof/Machine/Step.lean ====
section
/-! DEFINITION. `STEP` (40_step_sequencer.md R121 to R130), and how a word is placed where the next step fetches. -/

namespace Sys2Proof.Machine

/-- `STEP` (R121): refused before init (R122); a fetch out of memory returns MemoryFault and changes nothing else (R123, R130);
otherwise the fetched word is decoded and executed, which includes `pc <- pc + 4` (R127). -/
def step (s : State) : Host.Outcome State Fault Refusal :=
  match s.phase with
  | .uninitialized => .refused .stepBeforeInit
  | .running =>
    match fetch s with
    | .error st => .next (s.returns st)
    | .ok w => exec (decode w) s

/-- `s` with one instruction (bits numbered as in spec/opcode_table.json, those above `nbits` zero) stored where `step` fetches next.
A step needs the phase Running, so an Uninitialized state is first given `INIT`, as the boot order R233 does. Where no word can be
fetched at the pc (R54), there is no such place and no byte is stored (log 11). -/
def State.withFetchWord (s : State) (nbits w : Nat) : State :=
  let r := match s.phase with
    | .uninitialized => s.init
    | .running => s
  if inRange r.config r.pc.toNat 4 then
    { r with mem := r.mem.writeBytes r.pc.toNat (wordBytes (BitVec.ofNat 32 (w % 2 ^ nbits))) }
  else r

end Sys2Proof.Machine
end

