-- ==== Sys2Proof/Machine/HostPorts.lean ====
section
/-! DEFINITION. The host's ports: construction (70_reset_and_hazards.md R230), the register port (10_state.md R30), the pc port (R31)
and the memory ports (20_memory.md R60 to R63). `raise E` is `.error E`. -/

namespace Sys2Proof.Machine

/-- `CONSTRUCT(capacity, start)` (R230): refused out of range (R8, D13). -/
def construct (capacity : Nat := 512) (start : Nat := 12) : Host.Outcome State Fault Refusal :=
  if Config.legalArguments capacity start then
    .next (State.constructed { memCapacity := capacity, startAddress := BitVec.ofNat 32 start })
  else .refused .badConfiguration

/-- `REG_READ(i)` (R30): an index is never wrapped or truncated. -/
def regRead (s : State) (i : Nat) : Except Status Word :=
  if 32 ≤ i then .error (.invalidRegister i) else .ok (s.readReg (BitVec.ofNat 5 i))

/-- `REG_WRITE(i, v)` (R30): a write to x0 is discarded and still succeeds (D2). -/
def regWrite (s : State) (i : Nat) (v : Word) : Except Status State :=
  if 32 ≤ i then .error (.invalidRegister i) else .ok (s.writeReg (BitVec.ofNat 5 i) v)

/-- `GET_PC()` (R31): it never fails. -/
def getPc (s : State) : Word := s.pc

/-- `MAP_BYTES(o, bs)` (R60): the bound is checked before any write (R62); an empty load succeeds at any offset (D16). -/
def mapBytes (s : State) (o : Word) (bs : List Byte) : Except Status State :=
  if bs.length > 0 && !inRange s.config o.toNat bs.length then .error (.memoryFault o)
  else .ok { s with mem := s.mem.writeBytes o.toNat bs }

/-- `MAP_WORDS(o, ws)` (R61): word i at o + 4i, little-endian, at any offset (D16); the bound is checked before any write (R62). -/
def mapWords (s : State) (o : Word) (ws : List Word) : Except Status State :=
  if ws.length > 0 && !inRange s.config o.toNat (4 * ws.length) then .error (.memoryFault o)
  else .ok { s with mem := s.mem.writeBytes o.toNat (ws.flatMap wordBytes) }

end Sys2Proof.Machine
end

