-- ==== Sys2Proof/Machine/Transactions.lean ====
section
/-! DEFINITION. The host's transactions on a constructed block (00_scope.md R12, 70_reset_and_hazards.md R233, R237): each runs to
completion and returns one status (60_exceptions.md R200) before the next begins. -/

namespace Sys2Proof.Machine

/-- The transactions of R30, R31, R60, R61, R63, R120 and R121. -/
inductive Transaction where
  | init
  | step
  | regRead (i : Nat)
  | regWrite (i : Nat) (v : Word)
  | getPc
  | mapBytes (o : Word) (bs : List Byte)
  | mapWords (o : Word) (ws : List Word)
  | memRead8 (a : Word)
  | memRead32 (a : Word)
  deriving DecidableEq, Repr

/-- The value some transactions return beside the status (R200). -/
inductive Value where
  | byte (b : Byte)
  | word (w : Word)
  deriving DecidableEq, Repr

/-- What a transaction leaves: the state, whose `status` is the status returned, and the value where one is returned. -/
structure Reply where
  state : State
  value : Option Value
  deriving DecidableEq, Repr

/-- End a transaction that writes: the new state with Ok, or the old one with the error. -/
def settleWrite (s : State) : Except Status State → Reply
  | .ok t => { state := t.returns .ok, value := none }
  | .error st => { state := s.returns st, value := none }

/-- End a transaction that reads: the value with Ok, or no value with the error; the state is the old one. -/
def settleRead (s : State) : Except Status Value → Reply
  | .ok v => { state := s.returns .ok, value := some v }
  | .error st => { state := s.returns st, value := none }

/-- One transaction on a state. Only a step can be refused (R218). -/
def transact (t : Transaction) (s : State) : Host.Outcome Reply Fault Refusal :=
  match t with
  | .init => .next { state := s.init, value := none }
  | .step =>
    match step s with
    | .next r => .next { state := r, value := none }
    | .fault f => .fault f
    | .refused e => .refused e
  | .regRead i => .next (settleRead s ((Machine.regRead s i).map .word))
  | .regWrite i v => .next (settleWrite s (Machine.regWrite s i v))
  | .getPc => .next (settleRead s (.ok (.word (Machine.getPc s))))
  | .mapBytes o bs => .next (settleWrite s (Machine.mapBytes s o bs))
  | .mapWords o ws => .next (settleWrite s (Machine.mapWords s o ws))
  | .memRead8 a => .next (settleRead s ((Machine.memRead8 s a).map .byte))
  | .memRead32 a => .next (settleRead s ((Machine.memRead32 s a).map .word))

/-- The host's transactions one after another, in the host's order (R12, R68), until one is refused. -/
def transactAll : List Transaction → State → Host.Outcome State Fault Refusal
  | [], s => .next s
  | t :: ts, s =>
    match transact t s with
    | .next r => transactAll ts r.state
    | .fault f => .fault f
    | .refused e => .refused e

end Sys2Proof.Machine
end

