-- ==== Sys2Proof/Safety.lean ====
section
/-! DEFINITION. What the claims mean by a good state and a good run: the invariant of the block's state, and runs of steps and of
transactions (40_step_sequencer.md R129, 70_reset_and_hazards.md R239). -/

namespace Sys2Proof.Machine

/-- The invariant: the configuration is legal (R8), memory is in its canonical form, and only addresses of memory are listed (R50). -/
abbrev State.Inv (s : State) : Prop :=
  s.config.legal = true ∧ s.mem.wf ∧ s.mem.below s.config.memCapacity

/-- A state the block can be in: some legal construction, then some transactions of the host (R233). -/
def Reachable (s : State) : Prop :=
  ∃ capacity start r ts, construct capacity start = .next r ∧ transactAll ts r = .next s

/-- `n` steps one after another, from the state each one leaves (R129, R239: `n` is the host's choice, and no status ends a run). -/
def runSteps : Nat → State → Host.Outcome State Fault Refusal
  | 0, s => .next s
  | n + 1, s =>
    match step s with
    | .next t => runSteps n t
    | .fault f => .fault f
    | .refused e => .refused e

/-- A safe run of `n` steps: every step has a next state and its status is Ok (R239 "the first step whose status is not `Ok`"). -/
def safeRun : Nat → State → Bool
  | 0, _ => true
  | n + 1, s =>
    match step s with
    | .next t => decide (t.status = .ok) && safeRun n t
    | .fault _ => false
    | .refused _ => false

/-- The word is of a recognized class (R101). -/
abbrev Recognized (w : Word) : Prop := opcodeOf w ∈ recognizedOpcodes

/-- The word is an ADD: the match and mask of R140. -/
abbrev IsAddWord (w : Word) : Prop := w &&& 0xFE00707F#32 = 0x00000033#32

end Sys2Proof.Machine
end

