-- ==== Sys2Proof/WellFormed.lean ====
section
/-! DEFINITION. Well-formed instructions: those that are the decoding of some word. Register fields are well-formed by their width
(30_encoding.md R94); the checks are on immediates (R89 to R93) and on the rows that take what earlier rows leave (R109). -/

namespace Sys2Proof

/-- The value fits the 12 bits of an I- or S-type immediate, sign-extended: -2048 to 2047 (R89, R90). -/
def fitsImm12 (imm : Word) : Bool := imm == (imm.extractLsb' 0 12).signExtend 32

/-- The value is a B-type immediate: even and -4096 to 4094 (R91). -/
def fitsImmB (imm : Word) : Bool := imm == (imm.extractLsb' 1 12 ++ 0#1).signExtend 32

/-- The value is a U-type immediate: a multiple of 4096 (R92). -/
def fitsImmU (imm : Word) : Bool := imm.extractLsb' 0 12 == 0#12

/-- The value is a J-type immediate: even and -1048576 to 1048574 (R93). -/
def fitsImmJ (imm : Word) : Bool := imm == (imm.extractLsb' 1 20 ++ 0#1).signExtend 32

/-- The immediate of a shift row of OP-IMM: imm[11:5] has the row's value (R150). -/
def fitsShift (upper : BitVec 7) (imm : Word) : Bool := fitsImm12 imm && imm.extractLsb' 5 7 == upper

/-- The pairs of funct7 and funct3 that a named row of class OP has (R140, R141). -/
def opNamed (funct7 : BitVec 7) (funct3 : BitVec 3) : Bool :=
  funct7 == 0b0000000#7 || funct7 == 0b0000001#7 || (funct7 == 0b0100000#7 && (funct3 == 0b000#3 || funct3 == 0b101#3))

/-- The forms that a named row of class OP-IMM has (R150). -/
def opImmNamed (funct3 : BitVec 3) (imm : Word) : Bool :=
  !(funct3 == 0b001#3 || funct3 == 0b101#3) || imm.extractLsb' 5 7 == 0b0000000#7
    || (funct3 == 0b101#3 && imm.extractLsb' 5 7 == 0b0100000#7)

/-- The word is a SYSTEM word with this funct3 (R180). -/
def isSystemWord (w : Word) (funct3 : BitVec 3) : Bool := opcodeOf w == opcodeSystem && funct3Of w == funct3

/-- The well-formedness check of an instruction. -/
def Instr.wf : Instr → Bool
  | .add _ _ _ => true
  | .sub _ _ _ => true
  | .sll _ _ _ => true
  | .slt _ _ _ => true
  | .sltu _ _ _ => true
  | .xor _ _ _ => true
  | .srl _ _ _ => true
  | .sra _ _ _ => true
  | .or _ _ _ => true
  | .and _ _ _ => true
  | .mul _ _ _ => true
  | .mulh _ _ _ => true
  | .mulhsu _ _ _ => true
  | .mulhu _ _ _ => true
  | .div _ _ _ => true
  | .divu _ _ _ => true
  | .rem _ _ _ => true
  | .remu _ _ _ => true
  | .opOther funct7 funct3 _ _ _ => !opNamed funct7 funct3
  | .addi _ _ imm => fitsImm12 imm
  | .slti _ _ imm => fitsImm12 imm
  | .sltiu _ _ imm => fitsImm12 imm
  | .xori _ _ imm => fitsImm12 imm
  | .ori _ _ imm => fitsImm12 imm
  | .andi _ _ imm => fitsImm12 imm
  | .slli _ _ imm => fitsShift 0b0000000#7 imm
  | .srli _ _ imm => fitsShift 0b0000000#7 imm
  | .srai _ _ imm => fitsShift 0b0100000#7 imm
  | .opImmOther funct3 _ _ imm => fitsImm12 imm && !opImmNamed funct3 imm
  | .lui _ imm => fitsImmU imm
  | .auipc _ imm => fitsImmU imm
  | .lb _ _ imm => fitsImm12 imm
  | .lh _ _ imm => fitsImm12 imm
  | .lw _ _ imm => fitsImm12 imm
  | .lbu _ _ imm => fitsImm12 imm
  | .lhu _ _ imm => fitsImm12 imm
  | .loadReserved funct3 _ _ imm => fitsImm12 imm && (funct3 == 0b011#3 || funct3 == 0b110#3 || funct3 == 0b111#3)
  | .sb _ _ imm => fitsImm12 imm
  | .sh _ _ imm => fitsImm12 imm
  | .sw _ _ imm => fitsImm12 imm
  | .storeReserved funct3 _ _ imm => fitsImm12 imm && !(funct3 == 0b000#3 || funct3 == 0b001#3 || funct3 == 0b010#3)
  | .beq _ _ imm => fitsImmB imm
  | .bne _ _ imm => fitsImmB imm
  | .blt _ _ imm => fitsImmB imm
  | .bge _ _ imm => fitsImmB imm
  | .bltu _ _ imm => fitsImmB imm
  | .bgeu _ _ imm => fitsImmB imm
  | .branchReserved funct3 _ _ imm => fitsImmB imm && (funct3 == 0b010#3 || funct3 == 0b011#3)
  | .jal _ imm => fitsImmJ imm
  | .jalr _ _ imm => fitsImm12 imm
  | .jalrReserved funct3 _ _ imm => fitsImm12 imm && !(funct3 == 0b000#3)
  | .ecall => true
  | .ebreak => true
  | .csrrw w => isSystemWord w 0b001#3
  | .csrrs w => isSystemWord w 0b010#3
  | .csrrc w => isSystemWord w 0b011#3
  | .csrrwi w => isSystemWord w 0b101#3
  | .csrrsi w => isSystemWord w 0b110#3
  | .csrrci w => isSystemWord w 0b111#3
  | .systemOther w => (isSystemWord w 0b000#3 || isSystemWord w 0b100#3) && !(w == 0x00000073#32 || w == 0x00100073#32)
  | .fence _ _ imm => fitsImm12 imm
  | .fenceI _ _ imm => fitsImm12 imm
  | .miscMemOther funct3 _ _ imm => fitsImm12 imm && !(funct3 == 0b000#3 || funct3 == 0b001#3)
  | .unrecognized w => !recognizedOpcodes.contains (opcodeOf w)

end Sys2Proof
end

