-- ==== Sys2Proof/Certificates/Slice0/Obligations.lean ====
section
/-! DEFINITION. The statements about RVEMU-CORE for the provers. Each docstring names what it formalises in spec/; a statement that
rests on a decision of the spec (D<n>) or on a choice of the model (log <n>) says so. -/

open Sys2Proof Sys2Proof.Machine

/-- One of the spec's example words of each of the eleven classes (two of OP) and one word of no class decode to the instruction and
operands that the spec gives for each. The immediate 32 of 0x02628063 is the spec's own resolution C2; the opcode values are the
spec's general knowledge (D4, D5, log 10). (95_test_vectors.md section 1 (W2 to W8), sections 2.3 and 2.6; 42_alu_immediate.md (LUI
and AUIPC examples); 43_load_store.md (LOAD example); 44_control_transfer.md (JALR example); 45_system.md (examples); 30_encoding.md
sections 2 and 4; 90_conflicts.md C2; 92_eei_decisions.md D4, D5; notes/assumptions/10.md.) -/
def Obligations.KnownWordsDecode : Prop :=
  decode 0x01498933#32 = .add 18 19 20 ∧ decode 0x40628233#32 = .sub 4 5 6 ∧ decode 0x025A8A13#32 = .addi 20 21 37 ∧
  decode 0x123452B7#32 = .lui 5 0x12345000#32 ∧ decode 0x00001517#32 = .auipc 10 0x1000#32 ∧ decode 0x00812283#32 = .lw 5 2 8 ∧
  decode 0x013902A3#32 = .sb 18 19 5 ∧ decode 0x02628063#32 = .beq 5 6 32 ∧ decode 0xFF9FF0EF#32 = .jal 1 (-8#32) ∧
  decode 0x00008067#32 = .jalr 0 1 0 ∧ decode 0x00000073#32 = .ecall ∧ decode 0x0FF0000F#32 = .fence 0 0 0xFF#32 ∧
  decode 0x00000000#32 = .unrecognized 0#32

/-- For every well-formed instruction of every row, with every operand at every value its encoding admits, decoding its encoded word
gives that instruction. (30_encoding.md sections 2 to 6; 40_step_sequencer.md section 2.) -/
def Obligations.DecodeOfEncodeIsTheInstruction : Prop :=
  ∀ i : Instr, i.wf = true → decode (encode i) = i

/-- Decoding is total and loses no bit: the instruction decoded from any 32-bit word is well-formed and encodes back to the word. So the
word that a meaning reports (the encoding of its instruction, log 12) is the word that was fetched. (30_encoding.md sections 2 to 6;
60_exceptions.md section 1 (D21: the payload is the fetched word).) -/
def Obligations.EncodeOfDecodeIsTheWord : Prop :=
  ∀ w : Word, (decode w).wf = true ∧ encode (decode w) = w

/-- For every word, the first row of the opcode table whose mask and pattern take the word exists and has the mnemonic of the
instruction the decoder answers. The table's opcode values are the spec's general knowledge (D4, D5, log 10). (30_encoding.md
sections 4 and 6; opcode_table.json (first match wins); 92_eei_decisions.md D4, D5; notes/assumptions/10.md.) -/
def Obligations.DecoderFollowsTheOpcodeTable : Prop :=
  ∀ w : Word, (firstRow w).map TableRow.mnemonic = some (decode w).mnemonic

/-- Two words with the same bits [6:0] are classified with the same tag; every word with opcode 0110011 is R-type and every word with
opcode 0010011 is I-type; a word whose opcode is not in the table (its values are D4) is unrecognized. The value carries the word
itself. (30_encoding.md section 4; 92_eei_decisions.md D4 (the known opcodes).) -/
def Obligations.ClassifierReadsTheOpcodeOnly : Prop :=
  (∀ v w : Word, opcodeOf v = opcodeOf w → (classify v).tag = (classify w).tag) ∧
  (∀ w : Word, opcodeOf w = 0b0110011#7 → classify w = .r ⟨w⟩) ∧
  (∀ w : Word, opcodeOf w = 0b0010011#7 → classify w = .i ⟨w⟩) ∧
  (∀ w : Word, ¬ Recognized w → classify w = .unrecognized w) ∧
  (∀ w : Word, (classify w).word = w)

/-- Each of the eleven opcode values gives the format of the spec's table, every word with any other opcode is classified as
unrecognized, and 117 of the 128 opcode values are. The values are the spec's general knowledge (D4, log 10). (30_encoding.md
section 4; 92_eei_decisions.md D4, D5; 90_conflicts.md C5; notes/assumptions/10.md.) -/
def Obligations.ElevenOpcodesAreRecognized : Prop :=
  (∀ w : Word,
    (opcodeOf w ∈ [0b0110011#7] → classify w = .r ⟨w⟩) ∧
    (opcodeOf w ∈ [0b0010011#7, 0b0000011#7, 0b1100111#7, 0b0001111#7] → classify w = .i ⟨w⟩) ∧
    (opcodeOf w ∈ [0b0100011#7] → classify w = .s ⟨w⟩) ∧
    (opcodeOf w ∈ [0b1100011#7] → classify w = .b ⟨w⟩) ∧
    (opcodeOf w ∈ [0b0110111#7, 0b0010111#7] → classify w = .u ⟨w⟩) ∧
    (opcodeOf w ∈ [0b1101111#7] → classify w = .j ⟨w⟩) ∧
    (opcodeOf w ∈ [0b1110011#7] → classify w = .syscall w)) ∧
  (∀ w : Word, opcodeOf w ∉ [0b0110011#7, 0b0010011#7, 0b0000011#7, 0b1100111#7, 0b0001111#7, 0b0100011#7, 0b1100011#7, 0b0110111#7,
    0b0010111#7, 0b1101111#7, 0b1110011#7] → classify w = .unrecognized w) ∧
  ((List.range 128).filter fun n => (classify (BitVec.ofNat 32 n)).tag == .unrecognized).length = 117

/-- For every word, imm_I and imm_S are -2048 to 2047, imm_B is even and -4096 to 4094, imm_J is even and -1048576 to 1048574, and
imm_U, read as unsigned, is a multiple of 4096 from 0 to 0xFFFFF000. (30_encoding.md section 3; 92_eei_decisions.md D22;
93_implementation_defined.md Part B G2, G3.) -/
def Obligations.ImmediatesStayInTheirRanges : Prop :=
  ∀ w : Word,
    (-2048 ≤ (immI w).toInt ∧ (immI w).toInt ≤ 2047) ∧
    (-2048 ≤ (immS w).toInt ∧ (immS w).toInt ≤ 2047) ∧
    (-4096 ≤ (immB w).toInt ∧ (immB w).toInt ≤ 4094 ∧ (immB w).toInt % 2 = 0) ∧
    (-1048576 ≤ (immJ w).toInt ∧ (immJ w).toInt ≤ 1048574 ∧ (immJ w).toInt % 2 = 0) ∧
    ((immU w).toNat ≤ 0xFFFFF000 ∧ (immU w).toNat % 4096 = 0)

/-- imm_U(w) is w[31:12] followed by twelve zeros, that is w AND 0xFFFFF000, not sign-extended; read as unsigned it is a multiple of
4096 from 0 to 0xFFFFF000. (R92.) -/
def Obligations.UpperImmediateIsTheMaskedWord : Prop :=
  ∀ w : Word, immU w = w.extractLsb' 12 20 ++ 0#12 ∧ immU w = w &&& 0xFFFFF000#32 ∧
    (immU w).toNat % 4096 = 0 ∧ (immU w).toNat ≤ 0xFFFFF000

/-- Every construction that is not refused gives registers, memory and pc zero, phase Uninitialized and the configuration of the
arguments; with the arguments left out (512 and 12) it gives State.reset. That pc is 0 is the spec's decision D11; that the status
field holds Ok is the model's (log 1). (10_state.md section 9; 70_reset_and_hazards.md section 1; 92_eei_decisions.md D11 (pc before
init).) -/
def Obligations.ConstructionResetsEveryState : Prop :=
  construct = .next State.reset ∧ State.reset.config = { memCapacity := 512, startAddress := 12#32 } ∧
  ∀ (capacity start : Nat) (s : State), construct capacity start = .next s →
    (∀ r : RegIdx, s.readReg r = 0#32) ∧ (∀ a : Nat, s.mem.read a = 0x00#8) ∧ s.pc = 0#32 ∧ s.phase = .uninitialized ∧
    s.config = { memCapacity := capacity, startAddress := BitVec.ofNat 32 start } ∧ s.status = .ok

/-- A construction with a capacity gives a memory of that capacity in which every address reads 0, and whatever transaction the host
runs afterwards, the capacity is the same. (R52.) -/
def Obligations.MemoryIsZeroFilledAndKeepsItsSize : Prop :=
  (∀ (capacity start : Nat) (s : State), construct capacity start = .next s →
    s.config.memCapacity = capacity ∧ ∀ a : Nat, s.mem.read a = 0x00#8) ∧
  (∀ (t : Transaction) (s : State) (r : Reply), transact t s = .next r →
    r.state.config.memCapacity = s.config.memCapacity)

/-- Within the legal ranges construction answers a state with that configuration; outside them it is refused as BadConfiguration. The
ranges are the spec's decision D13. (00_scope.md section 3; 92_eei_decisions.md D13.) -/
def Obligations.ConstructionRefusesBadArguments : Prop :=
  ∀ capacity start : Nat,
    (capacity ≤ 2 ^ 32 ∧ start < 2 ^ 32 →
      ∃ s, construct capacity start = .next s ∧ s.config.memCapacity = capacity ∧ s.config.startAddress.toNat = start) ∧
    (¬ (capacity ≤ 2 ^ 32 ∧ start < 2 ^ 32) → construct capacity start = .refused .badConfiguration)

/-- In every state init succeeds with status Ok, sets pc to START_ADDRESS and the phase to Running, and leaves registers, memory and
configuration; doing it twice is doing it once. That it may be called while Running is D20, that it leaves x4 is D1.
(40_step_sequencer.md section 1; 92_eei_decisions.md D20, D1.) -/
def Obligations.InitSeedsThePcOnly : Prop :=
  ∀ s : State, ∃ r, transact .init s = .next r ∧ r.value = none ∧ r.state.status = .ok ∧
    r.state.pc = s.config.startAddress ∧ r.state.phase = .running ∧ (∀ i : RegIdx, r.state.readReg i = s.readReg i) ∧
    (∀ a : Nat, r.state.mem.read a = s.mem.read a) ∧ r.state.config = s.config ∧
    transact .init r.state = .next r

/-- The pc after construction does not depend on the start address; after init it is the start address; the step after that runs the
word whose four bytes stand at the start address, or reports MemoryFault with that address, and changes nothing else, where they are
not all in memory. That a failed fetch changes nothing is D8, init while Running is D20 (log 7). (70_reset_and_hazards.md section 2;
40_step_sequencer.md sections 1 to 3; 92_eei_decisions.md D8, D20; notes/assumptions/7.md.) -/
def Obligations.FirstStepFetchesAtStartAddress : Prop :=
  (∀ (capacity start start' : Nat) (s s' : State),
    construct capacity start = .next s → construct capacity start' = .next s' → s.pc = s'.pc) ∧
  (∀ s : State, s.init.pc = s.config.startAddress ∧
    (∀ w : Word, memRead32 s.init s.config.startAddress = .ok w → step s.init = exec (decode w) s.init) ∧
    (∀ st : Status, memRead32 s.init s.config.startAddress = .error st →
      st = .memoryFault s.config.startAddress ∧ step s.init = .next { s.init with status := st }))

/-- A register read or write with an index of 32 or more answers InvalidRegister with that index, no value and no state change; no other
transaction, and never a step, answers InvalidRegister. That the status carries the index is D21, that either phase allows the
access is D19 (log 9), and 'no state change' is up to the model's status field (log 1). (60_exceptions.md section 1; 10_state.md
section 5; 30_encoding.md section 3; 92_eei_decisions.md D19, D21; notes/assumptions/1.md; notes/assumptions/9.md.) -/
def Obligations.InvalidRegisterComesFromTheRegisterPortOnly : Prop :=
  (∀ (s : State) (i : Nat) (v : Word), 32 ≤ i →
    transact (.regRead i) s = .next { state := { s with status := .invalidRegister i }, value := none } ∧
    transact (.regWrite i v) s = .next { state := { s with status := .invalidRegister i }, value := none }) ∧
  (∀ (t : Transaction) (s : State) (r : Reply) (i : Nat), transact t s = .next r → r.state.status = .invalidRegister i →
    32 ≤ i ∧ (t = .regRead i ∨ ∃ v, t = .regWrite i v))

/-- In every state and phase, writing register i < 32 succeeds with Ok; afterwards register i reads the value unless i is 0, every other
register reads as before, and pc, phase, memory and configuration are unchanged. That x0 discards is D2, that x4 is not the pc is
D1, either phase is D19. (10_state.md sections 1, 2 and 5; 92_eei_decisions.md D2, D1, D19.) -/
def Obligations.RegisterWriteThenRead : Prop :=
  ∀ (s : State) (i j : Nat) (v : Word), i < 32 → j < 32 →
    ∃ r, transact (.regWrite i v) s = .next r ∧ r.state.status = .ok ∧
      regRead r.state j = (if j = i ∧ j ≠ 0 then .ok v else regRead s j) ∧
      r.state.pc = s.pc ∧ r.state.phase = s.phase ∧ r.state.config = s.config ∧ (∀ a : Nat, r.state.mem.read a = s.mem.read a)

/-- Every state reads 0 from x0, the host's read of x0 answers 0, and writing x0 leaves the state as it was and still answers Ok. This
is the spec's decision D2. (10_state.md section 1; 92_eei_decisions.md D2.) -/
def Obligations.RegisterZeroReadsZero : Prop :=
  ∀ (s : State) (v : Word), s.readReg 0#5 = 0#32 ∧ s.writeReg 0#5 v = s ∧
    transact (.regRead 0) s = .next { state := { s with status := .ok }, value := some (.word 0#32) } ∧
    transact (.regWrite 0 v) s = .next { state := { s with status := .ok }, value := none }

/-- A register read, a pc read, a byte read and a word read leave every part of the spec's state as it was (only the model's status
field records the answer, log 1). A register read with an index below 32 answers, with Ok, the register that instructions read; the
pc read answers the pc with Ok; a byte and a word read answer the value of MemRead with Ok, or its error without a value. The memory
and pc read ports are D17 and D18, either phase is D19, the payloads are D21 (log 9). (10_state.md section 5; 20_memory.md sections
4 and 7; 60_exceptions.md section 1; 92_eei_decisions.md D17, D18, D19, D21; notes/assumptions/1.md; notes/assumptions/9.md.) -/
def Obligations.ReadPortsChangeNoState : Prop :=
  (∀ (t : Transaction) (s : State) (r : Reply), transact t s = .next r →
    ((∃ i, t = .regRead i) ∨ t = .getPc ∨ (∃ a, t = .memRead8 a) ∨ (∃ a, t = .memRead32 a)) →
    r.state = { s with status := r.state.status }) ∧
  (∀ s : State, transact .getPc s = .next { state := { s with status := .ok }, value := some (.word s.pc) }) ∧
  (∀ (s : State) (i : Nat), i < 32 → transact (.regRead i) s =
    .next { state := { s with status := .ok }, value := some (.word (s.readReg (BitVec.ofNat 5 i))) }) ∧
  (∀ (s : State) (a : Word),
    (∀ b : Byte, memRead8 s a = .ok b → transact (.memRead8 a) s = .next { state := { s with status := .ok }, value := some (.byte b) }) ∧
    (∀ st : Status, memRead8 s a = .error st → transact (.memRead8 a) s = .next { state := { s with status := st }, value := none }) ∧
    (∀ w : Word, memRead32 s a = .ok w → transact (.memRead32 a) s = .next { state := { s with status := .ok }, value := some (.word w) }) ∧
    (∀ st : Status, memRead32 s a = .error st → transact (.memRead32 a) s = .next { state := { s with status := st }, value := none }))

/-- MemRead(a, 4) answers MemoryFault(a) when a + 4 exceeds the capacity; otherwise it answers mem[a+3], mem[a+2], mem[a+1], mem[a] from
the top byte down, the addresses a to a + 3 do not wrap, and the host's transaction changes no state. The host's port is D17, the
unbounded bounds check is D14, and its reply changes only the model's status field (log 1). (20_memory.md sections 3, 4 and 7;
92_eei_decisions.md D14, D17; notes/assumptions/1.md.) -/
def Obligations.WordReadIsFourBytesLittleEndian : Prop :=
  ∀ (s : State) (a : Word), s.config.legal = true →
    (s.config.memCapacity < a.toNat + 4 → memRead32 s a = .error (.memoryFault a)) ∧
    (a.toNat + 4 ≤ s.config.memCapacity →
      memRead32 s a = .ok (s.mem.read (a + 3#32).toNat ++ s.mem.read (a + 2#32).toNat ++ s.mem.read (a + 1#32).toNat ++ s.mem.read a.toNat) ∧
      (a + 3#32).toNat = a.toNat + 3 ∧ (a + 2#32).toNat = a.toNat + 2 ∧ (a + 1#32).toNat = a.toNat + 1) ∧
    ∃ r, transact (.memRead32 a) s = .next r ∧ r.state = { s with status := r.state.status }

/-- Where a word read answers w, the byte read at a + k answers bits 8k+7 to 8k of w, for k from 0 to 3. The byte read is the spec's
D17. (20_memory.md sections 2, 4 and 8; 92_eei_decisions.md D17.) -/
def Obligations.WordReadAgreesWithByteReads : Prop :=
  ∀ (s : State) (a w : Word), s.config.legal = true → memRead32 s a = .ok w →
    ∀ k : Nat, k < 4 → memRead8 s (a + BitVec.ofNat 32 k) = .ok (w.extractLsb' (8 * k) 8)

/-- In a state whose memory is in canonical form, MemWrite(a, 1, b) answers MemoryFault(a) out of memory; in memory it answers a state
in which address a reads b, every other address reads as before, and nothing but memory has changed. A load of that one byte through
the host's port is the same. (20_memory.md sections 4 and 8; 92_eei_decisions.md D14.) -/
def Obligations.ByteWriteThenRead : Prop :=
  ∀ (s : State) (a : Word) (b : Byte), s.mem.wf →
    (s.config.memCapacity < a.toNat + 1 → memWrite8 s a b = .error (.memoryFault a)) ∧
    (a.toNat + 1 ≤ s.config.memCapacity → ∃ t, memWrite8 s a b = .ok t ∧ t.mem.read a.toNat = b ∧
      (∀ c : Nat, c ≠ a.toNat → t.mem.read c = s.mem.read c) ∧ t = { s with mem := t.mem }) ∧
    mapBytes s a [b] = memWrite8 s a b

/-- For a byte load and a word load: either the status is Ok and every byte reads as given (word i little-endian at o + 4i), or the
bound is exceeded, the status is MemoryFault and memory is unchanged. That an empty load succeeds at any offset and that the payload
is o are D16, the unbounded sum is D14. The premise is the model's canonical form of memory (log 13), an invariant stated on its
own. (20_memory.md section 7; 92_eei_decisions.md D14, D16; notes/assumptions/13.md.) -/
def Obligations.BulkLoadIsAllOrNothing : Prop :=
  ∀ (s : State) (o : Word), s.mem.wf →
    (∀ bs : List Byte, ∃ r, transact (.mapBytes o bs) s = .next r ∧
      ((r.state.status = .ok ∧ (bs = [] ∨ o.toNat + bs.length ≤ s.config.memCapacity) ∧
          ∀ (k : Nat) (h : k < bs.length), r.state.mem.read (o.toNat + k) = bs[k]) ∨
       (r.state.status = .memoryFault o ∧ bs ≠ [] ∧ s.config.memCapacity < o.toNat + bs.length ∧ r.state.mem = s.mem))) ∧
    (∀ ws : List Word, ∃ r, transact (.mapWords o ws) s = .next r ∧
      ((r.state.status = .ok ∧ (ws = [] ∨ o.toNat + 4 * ws.length ≤ s.config.memCapacity) ∧
          ∀ (i : Nat) (h : i < ws.length) (k : Nat), k < 4 →
            r.state.mem.read (o.toNat + 4 * i + k) = (ws[i]).extractLsb' (8 * k) 8) ∨
       (r.state.status = .memoryFault o ∧ ws ≠ [] ∧ s.config.memCapacity < o.toNat + 4 * ws.length ∧ r.state.mem = s.mem)))

/-- Every address outside o to o + L - 1 reads as before, registers, pc, phase and configuration are unchanged, and the load succeeds
exactly when it is empty or ends within memory, at any offset (D14, D16). (20_memory.md section 7; 92_eei_decisions.md D14, D16.) -/
def Obligations.BulkLoadFrame : Prop :=
  ∀ (s : State) (o : Word) (bs : List Byte) (ws : List Word), s.mem.wf →
    (∀ t, mapBytes s o bs = .ok t → t = { s with mem := t.mem } ∧
      ∀ a : Nat, (a < o.toNat ∨ o.toNat + bs.length ≤ a) → t.mem.read a = s.mem.read a) ∧
    (∀ t, mapWords s o ws = .ok t → t = { s with mem := t.mem } ∧
      ∀ a : Nat, (a < o.toNat ∨ o.toNat + 4 * ws.length ≤ a) → t.mem.read a = s.mem.read a) ∧
    ((∃ t, mapBytes s o bs = .ok t) ↔ bs = [] ∨ o.toNat + bs.length ≤ s.config.memCapacity) ∧
    ((∃ t, mapWords s o ws = .ok t) ↔ ws = [] ∨ o.toNat + 4 * ws.length ≤ s.config.memCapacity)

/-- After a word load at o that succeeds, the word read at o + 4i answers word i; after a byte load, the byte read at o + k answers byte
k. (95_test_vectors.md section 1 (W11); 20_memory.md sections 7 and 8; 92_eei_decisions.md D16, D17.) -/
def Obligations.LoadedWordsReadBack : Prop :=
  ∀ (s : State) (o : Word), s.Inv →
    (∀ (ws : List Word) (t : State), mapWords s o ws = .ok t → ∀ (i : Nat) (h : i < ws.length),
      memRead32 t (o + BitVec.ofNat 32 (4 * i)) = .ok ws[i]) ∧
    (∀ (bs : List Byte) (t : State), mapBytes s o bs = .ok t → ∀ (k : Nat) (h : k < bs.length),
      memRead8 t (o + BitVec.ofNat 32 k) = .ok bs[k])

/-- A transaction that completes answers MemoryFault(a) exactly when it is a step whose fetch, a bulk load whose span, or a read whose
bytes exceed the capacity from a on; no value is then returned, and the state is what it was (but for the model's status field, log
1). That a failed fetch changes nothing is D8, the unbounded sums are D14, the empty load and the payload o are D16, the read ports
are D17. (60_exceptions.md section 1 (R203); 20_memory.md sections 3 and 7 (R54, R60, R61, R63); 40_step_sequencer.md section 3;
92_eei_decisions.md D8, D14, D16, D17; notes/assumptions/1.md.) -/
def Obligations.MemoryFaultChangesNothing : Prop :=
  ∀ (t : Transaction) (s : State) (r : Reply) (a : Word), transact t s = .next r →
    (r.state.status = .memoryFault a → r.state = { s with status := .memoryFault a } ∧ r.value = none) ∧
    (r.state.status = .memoryFault a ↔
     (t = .step ∧ a = s.pc ∧ s.config.memCapacity < a.toNat + 4) ∨
     (∃ bs, t = .mapBytes a bs ∧ bs ≠ [] ∧ s.config.memCapacity < a.toNat + bs.length) ∨
     (∃ ws, t = .mapWords a ws ∧ ws ≠ [] ∧ s.config.memCapacity < a.toNat + 4 * ws.length) ∨
     (t = .memRead8 a ∧ s.config.memCapacity < a.toNat + 1) ∨
     (t = .memRead32 a ∧ s.config.memCapacity < a.toNat + 4))

/-- The canonical form of the model's memory is unique: memories that agree at every address are equal lists. The form is the model's
choice (log 13). (20_memory.md sections 1 and 8; notes/assumptions/13.md.) -/
def Obligations.EqualReadsMeanEqualMemories : Prop :=
  ∀ m n : Memory, m.wf → n.wf → (∀ a : Nat, m.read a = n.read a) → m = n

/-- In phase Running with pc + 4 within memory, the step is exec, at that state, of the instruction decoded from the four bytes at the
pc read little-endian, whatever pc modulo 4 is; exec includes the advance of the pc. That no alignment is asked is D15, the
unbounded bounds check is D14 (log 8). (40_step_sequencer.md section 2; 20_memory.md sections 3, 4 and 5; 92_eei_decisions.md D14,
D15; notes/assumptions/8.md.) -/
def Obligations.StepRunsTheDecodedInstruction : Prop :=
  ∀ s : State, s.phase = .running → s.pc.toNat + 4 ≤ s.config.memCapacity →
    step s = exec (decode (s.mem.read (s.pc.toNat + 3) ++ s.mem.read (s.pc.toNat + 2) ++ s.mem.read (s.pc.toNat + 1) ++
      s.mem.read s.pc.toNat)) s

/-- While Uninitialized a step is refused as StepBeforeInit; while Running it answers a next state, whatever the memory, the pc and the
registers hold. The refusal is the spec's decision D10. (40_step_sequencer.md section 2; 92_eei_decisions.md D10.) -/
def Obligations.StepIsRefusedExactlyBeforeInit : Prop :=
  ∀ s : State, (s.phase = .uninitialized → step s = .refused .stepBeforeInit) ∧
    (s.phase = .running → ∃ t, step s = .next t ∧ t.phase = .running)

/-- In phase Running with pc + 4 beyond memory, one step and any larger number of steps leave the state as it was, with status
MemoryFault(pc). This is the spec's decision D8. (40_step_sequencer.md section 3; 92_eei_decisions.md D8.) -/
def Obligations.FetchFaultRepeatsForever : Prop :=
  ∀ (s : State) (n : Nat), s.phase = .running → s.config.memCapacity < s.pc.toNat + 4 →
    runSteps (n + 1) s = .next { s with status := .memoryFault s.pc }

/-- In phase Running, a step whose fetch gives any word answers a next state whose pc is the old one plus 4, wrapping at 2^32. For an
unrecognized word this is D7, the wrap is D12. (40_step_sequencer.md section 3; 92_eei_decisions.md D7, D12.) -/
def Obligations.EveryFetchedStepAdvancesThePc : Prop :=
  ∀ (s : State) (w : Word), s.phase = .running → fetch s = .ok w →
    ∃ t, step s = .next t ∧ t.pc = s.pc + 4#32 ∧ t.pc.toNat = (s.pc.toNat + 4) % 2 ^ 32

/-- In phase Running a step answers exactly one status: MemoryFault(pc) where the fetch is out of memory; otherwise
UnrecognizedOpcode(w) where the fetched word has no class; otherwise UnimplementedInstruction(w) where it is not ADD; otherwise Ok.
Which words have a class is the spec's general knowledge (D4, D5, log 10), which is ADD is D3. (40_step_sequencer.md section 3;
60_exceptions.md section 2; 92_eei_decisions.md D3, D4, D5, D6; notes/assumptions/10.md.) -/
def Obligations.StatusFollowsPipelineOrder : Prop :=
  ∀ s : State, s.phase = .running → ∃ t, step s = .next t ∧
    ((s.config.memCapacity < s.pc.toNat + 4 ∧ t.status = .memoryFault s.pc) ∨
     (s.pc.toNat + 4 ≤ s.config.memCapacity ∧ ∃ w, fetch s = .ok w ∧
       ((¬ Recognized w ∧ t.status = .unrecognizedOpcode w) ∨
        (Recognized w ∧ ¬ IsAddWord w ∧ t.status = .unimplementedInstruction w) ∨
        (IsAddWord w ∧ t.status = .ok))))

/-- A step that fetches a recognized word which is not ADD answers the state with pc advanced by 4 and status
UnimplementedInstruction(word), and nothing else changed; and no other operation ever answers UnimplementedInstruction. Which words
are recognized is D4, which is ADD is D3, that nothing is written is D9. (60_exceptions.md section 1; 30_encoding.md section 6;
92_eei_decisions.md D3, D4 (which words), D9 (nothing written).) -/
def Obligations.UnimplementedWordsOnlyAdvanceThePc : Prop :=
  (∀ (s : State) (w : Word), s.phase = .running → fetch s = .ok w → Recognized w → ¬ IsAddWord w →
    step s = .next { s with pc := s.pc + 4#32, status := .unimplementedInstruction w }) ∧
  (∀ (t : Transaction) (s : State) (r : Reply) (w : Word), transact t s = .next r →
    r.state.status = .unimplementedInstruction w → t = .step ∧ fetch s = .ok w ∧ Recognized w ∧ ¬ IsAddWord w)

/-- A step that fetches a word whose opcode is in no class answers the state with pc advanced by 4 (the spec's decision D7) and status
UnrecognizedOpcode(word), and nothing else changed; and no other operation ever answers UnrecognizedOpcode. Which words are of no
class is the spec's general knowledge (D4, D5, log 10). (60_exceptions.md section 1; 40_step_sequencer.md section 2; 30_encoding.md
section 4; 92_eei_decisions.md D4, D5, D7; notes/assumptions/10.md.) -/
def Obligations.UnrecognizedWordsOnlyAdvanceThePc : Prop :=
  (∀ (s : State) (w : Word), s.phase = .running → fetch s = .ok w → ¬ Recognized w →
    step s = .next { s with pc := s.pc + 4#32, status := .unrecognizedOpcode w }) ∧
  (∀ (t : Transaction) (s : State) (r : Reply) (w : Word), transact t s = .next r →
    r.state.status = .unrecognizedOpcode w → t = .step ∧ fetch s = .ok w ∧ ¬ Recognized w)

/-- A step that fetches a word matching 0x00000033 under 0xFE00707F answers a next state with status Ok and pc + 4, in which x[w[11:7]]
reads x[w[19:15]] + x[w[24:20]] of the state before, unless that is x0, every other register reads as before, and memory, phase and
configuration are unchanged. The funct7 test is D3, x0 is D2. (41_alu_register.md (ADD); 92_eei_decisions.md D3, D2; 90_conflicts.md
C3.) -/
def Obligations.AddWordsExecute : Prop :=
  ∀ (s : State) (w : Word), s.phase = .running → fetch s = .ok w → IsAddWord w →
    ∃ t, step s = .next t ∧ t.status = .ok ∧ t.pc = s.pc + 4#32 ∧
      (∀ r : RegIdx, t.readReg r =
        if r = w.extractLsb' 7 5 ∧ r ≠ 0#5 then s.readReg (w.extractLsb' 15 5) + s.readReg (w.extractLsb' 20 5) else s.readReg r) ∧
      (∀ a : Nat, t.mem.read a = s.mem.read a) ∧ t.phase = s.phase ∧ t.config = s.config

/-- exec of ADD answers a next state for every state and operands: rd reads the sum of rs1 and rs2 as they were before (rd may be either
of them), or 0 still where rd is x0; every other register, memory, phase and configuration is unchanged, pc advances by 4 also where
rd is 4, status Ok. x0 is D2, x4 is D1. (41_alu_register.md (ADD); 10_state.md sections 1 and 2; 92_eei_decisions.md D1, D2.) -/
def Obligations.AddResultAndFrame : Prop :=
  ∀ (s : State) (rd rs1 rs2 : RegIdx), ∃ t, exec (.add rd rs1 rs2) s = .next t ∧ t.status = .ok ∧ t.pc = s.pc + 4#32 ∧
    (∀ r : RegIdx, t.readReg r = if r = rd ∧ r ≠ 0#5 then s.readReg rs1 + s.readReg rs2 else s.readReg r) ∧
    (∀ a : Nat, t.mem.read a = s.mem.read a) ∧ t.phase = s.phase ∧ t.config = s.config

/-- For every state and operands ADD answers a next state with status Ok, overflow or not; where rd is not x0 its unsigned value is the
sum of the unsigned operands modulo 2^32, and its signed value is the sum of the signed operands brought into the signed range;
where rd is x0 no register changes. With operands 0xFFFFFFFF and 1 the result is 0. That x0 discards is D2 (log 4).
(41_alu_register.md (ADD, and R142); 10_state.md section 1; 92_eei_decisions.md D2; notes/assumptions/4.md.) -/
def Obligations.AddWrapsModuloTwoToThe32 : Prop :=
  ∀ (s : State) (rd rs1 rs2 : RegIdx), ∃ t, exec (.add rd rs1 rs2) s = .next t ∧ t.status = .ok ∧
    (rd = 0#5 → ∀ r : RegIdx, t.readReg r = s.readReg r) ∧
    (rd ≠ 0#5 →
      (t.readReg rd).toNat = ((s.readReg rs1).toNat + (s.readReg rs2).toNat) % 2 ^ 32 ∧
      (t.readReg rd).toInt = ((s.readReg rs1).toInt + (s.readReg rs2).toInt).bmod (2 ^ 32) ∧
      (s.readReg rs1 = 0xFFFFFFFF#32 → s.readReg rs2 = 1#32 → t.readReg rd = 0#32))

/-- For every state and operands, exec of SUB, SLL, SLT, SLTU, XOR, SRL, SRA, OR, AND, MUL, MULH, MULHSU, MULHU, DIV, DIVU, REM, REMU
and any other OP word answers the next state with pc + 4 and status UnimplementedInstruction of the instruction's word, and every
register, every byte of memory, the phase and the configuration unchanged. (41_alu_register.md (OP, other); 92_eei_decisions.md D3,
D9.) -/
def Obligations.OpWordsReportAndAdvance : Prop :=
  ∀ (s : State) (funct7 : BitVec 7) (funct3 : BitVec 3) (rd rs1 rs2 : RegIdx) (i : Instr),
    i ∈ [.sub rd rs1 rs2, .sll rd rs1 rs2, .slt rd rs1 rs2, .sltu rd rs1 rs2, .xor rd rs1 rs2, .srl rd rs1 rs2,
      .sra rd rs1 rs2, .or rd rs1 rs2, .and rd rs1 rs2, .mul rd rs1 rs2, .mulh rd rs1 rs2, .mulhsu rd rs1 rs2,
      .mulhu rd rs1 rs2, .div rd rs1 rs2, .divu rd rs1 rs2, .rem rd rs1 rs2, .remu rd rs1 rs2,
      .opOther funct7 funct3 rd rs1 rs2] →
    exec i s = .next { s with pc := s.pc + 4#32, status := .unimplementedInstruction (encode i) }

/-- For every state and operands, exec of ADDI, SLTI, SLTIU, XORI, ORI, ANDI, SLLI, SRLI, SRAI and any other OP-IMM word answers the
next state with pc + 4 and status UnimplementedInstruction of the instruction's word, and every register, every byte of memory, the
phase and the configuration unchanged. (42_alu_immediate.md (OP-IMM); 92_eei_decisions.md D9.) -/
def Obligations.OpImmWordsReportAndAdvance : Prop :=
  ∀ (s : State) (funct3 : BitVec 3) (rd rs1 : RegIdx) (imm : Word) (i : Instr),
    i ∈ [.addi rd rs1 imm, .slti rd rs1 imm, .sltiu rd rs1 imm, .xori rd rs1 imm, .ori rd rs1 imm, .andi rd rs1 imm,
      .slli rd rs1 imm, .srli rd rs1 imm, .srai rd rs1 imm, .opImmOther funct3 rd rs1 imm] →
    exec i s = .next { s with pc := s.pc + 4#32, status := .unimplementedInstruction (encode i) }

/-- For every state and operands, exec of LUI and AUIPC answers the next state with pc + 4 and status UnimplementedInstruction of the
instruction's word, and every register, every byte of memory, the phase and the configuration unchanged. (42_alu_immediate.md (LUI,
AUIPC); 92_eei_decisions.md D9.) -/
def Obligations.UpperImmediateWordsReportAndAdvance : Prop :=
  ∀ (s : State) (rd : RegIdx) (imm : Word) (i : Instr),
    i ∈ [.lui rd imm, .auipc rd imm] →
    exec i s = .next { s with pc := s.pc + 4#32, status := .unimplementedInstruction (encode i) }

/-- For every state and operands, exec of LB, LH, LW, LBU, LHU, LOAD reserved, SB, SH, SW and STORE reserved answers the next state with
pc + 4 and status UnimplementedInstruction of the instruction's word, and every register, every byte of memory, the phase and the
configuration unchanged. (43_load_store.md (LOAD, STORE); 92_eei_decisions.md D9.) -/
def Obligations.LoadAndStoreWordsReportAndAdvance : Prop :=
  ∀ (s : State) (funct3 : BitVec 3) (rd rs1 rs2 : RegIdx) (imm : Word) (i : Instr),
    i ∈ [.lb rd rs1 imm, .lh rd rs1 imm, .lw rd rs1 imm, .lbu rd rs1 imm, .lhu rd rs1 imm,
      .loadReserved funct3 rd rs1 imm, .sb rs1 rs2 imm, .sh rs1 rs2 imm, .sw rs1 rs2 imm,
      .storeReserved funct3 rs1 rs2 imm] →
    exec i s = .next { s with pc := s.pc + 4#32, status := .unimplementedInstruction (encode i) }

/-- For every state and operands, exec of BEQ, BNE, BLT, BGE, BLTU, BGEU, BRANCH reserved, JAL, JALR and JALR-class reserved answers the
next state with pc + 4 and status UnimplementedInstruction of the instruction's word, and every register, every byte of memory, the
phase and the configuration unchanged. (44_control_transfer.md (BRANCH, JAL, JALR); 92_eei_decisions.md D9.) -/
def Obligations.ControlTransferWordsReportAndAdvance : Prop :=
  ∀ (s : State) (funct3 : BitVec 3) (rd rs1 rs2 : RegIdx) (imm : Word) (i : Instr),
    i ∈ [.beq rs1 rs2 imm, .bne rs1 rs2 imm, .blt rs1 rs2 imm, .bge rs1 rs2 imm, .bltu rs1 rs2 imm, .bgeu rs1 rs2 imm,
      .branchReserved funct3 rs1 rs2 imm, .jal rd imm, .jalr rd rs1 imm, .jalrReserved funct3 rd rs1 imm] →
    exec i s = .next { s with pc := s.pc + 4#32, status := .unimplementedInstruction (encode i) }

/-- For every state and operands, exec of ECALL, EBREAK, CSRRW, CSRRS, CSRRC, CSRRWI, CSRRSI, CSRRCI, any other SYSTEM word, FENCE,
FENCE.I and any other MISC-MEM word answers the next state with pc + 4 and status UnimplementedInstruction of the instruction's
word, and every register, every byte of memory, the phase and the configuration unchanged. (45_system.md (SYSTEM, MISC-MEM);
92_eei_decisions.md D5, D6, D9.) -/
def Obligations.SystemAndFenceWordsReportAndAdvance : Prop :=
  ∀ (s : State) (funct3 : BitVec 3) (rd rs1 : RegIdx) (imm w : Word) (i : Instr),
    i ∈ [.ecall, .ebreak, .csrrw w, .csrrs w, .csrrc w, .csrrwi w, .csrrsi w, .csrrci w, .systemOther w,
      .fence rd rs1 imm, .fenceI rd rs1 imm, .miscMemOther funct3 rd rs1 imm] →
    exec i s = .next { s with pc := s.pc + 4#32, status := .unimplementedInstruction (encode i) }

/-- For every state and word, exec of the unrecognized instruction answers the next state with pc + 4 and status
UnrecognizedOpcode(word), and every register, byte, the phase and the configuration unchanged. The pc's advance is D7.
(40_step_sequencer.md section 2; 60_exceptions.md section 1; 92_eei_decisions.md D7.) -/
def Obligations.UnrecognizedInstructionReportsAndAdvances : Prop :=
  ∀ (s : State) (w : Word),
    exec (.unrecognized w) s = .next { s with pc := s.pc + 4#32, status := .unrecognizedOpcode w }

/-- Whatever the state, when a step leaves some register with another value than before, the word fetched is an ADD, the register is its
rd and not x0, and its value is the sum of the two source registers; init and the pc play no part. Which words are ADD is D3, that
other words write no register is D6 and D9 (log 6), that x0 discards is D2 (log 4), that the pc is no register is D1 (log 5).
(10_state.md section 1; 40_step_sequencer.md section 2; 92_eei_decisions.md D1, D2, D3, D6, D9; notes/assumptions/4.md;
notes/assumptions/5.md; notes/assumptions/6.md.) -/
def Obligations.OnlyAddChangesARegister : Prop :=
  ∀ (s t : State) (r : RegIdx), step s = .next t → t.readReg r ≠ s.readReg r →
    ∃ w, fetch s = .ok w ∧ IsAddWord w ∧ r = w.extractLsb' 7 5 ∧ r ≠ 0#5 ∧
      t.readReg r = s.readReg (w.extractLsb' 15 5) + s.readReg (w.extractLsb' 20 5)

/-- For each of the 64 instructions and every state, exec answers a next state with pc + 4, every byte of memory, the phase and the
configuration unchanged, and every register unchanged but the rd of an ADD. The pc after an unrecognized word is D7 (log 7), that an
unimplemented word writes nothing is D9 (log 6), that the pc wraps is D12 (log 8), and that the errors are next states is the
model's (log 2). (40_step_sequencer.md sections 2 and 3; 20_memory.md section 1; 10_state.md sections 1, 3 and 8;
92_eei_decisions.md D7, D9, D12; notes/assumptions/2.md; notes/assumptions/6.md; notes/assumptions/7.md; notes/assumptions/8.md.) -/
def Obligations.EveryInstructionCompletesWithItsFrame : Prop :=
  ∀ (i : Instr) (s : State), ∃ t, exec i s = .next t ∧ t.pc = s.pc + 4#32 ∧ t.phase = s.phase ∧ t.config = s.config ∧
    (∀ a : Nat, t.mem.read a = s.mem.read a) ∧
    (∀ r : RegIdx, (∀ rs1 rs2, i ≠ .add r rs1 rs2) → t.readReg r = s.readReg r)

/-- The outcome of every transaction is the same whatever status the last operation returned; no transaction ever faults, and only a
step while Uninitialized is refused, so after any status the host may go on and inspect the state. The status field is the model's
own (log 1); the refusal is D10. (60_exceptions.md sections 1 and 4; 40_step_sequencer.md sections 2 and 3; 92_eei_decisions.md D10;
notes/assumptions/1.md.) -/
def Obligations.StatusNeverInfluencesWhatFollows : Prop :=
  (∀ (t : Transaction) (s : State) (st : Status), transact t { s with status := st } = transact t s) ∧
  (∀ (t : Transaction) (s : State), (∃ r, transact t s = .next r) ∨
    (t = .step ∧ s.phase = .uninitialized ∧ transact t s = .refused .stepBeforeInit))

/-- From every state with the invariant (legal configuration; memory in the model's canonical form, log 13; no address at or above the
capacity listed), every transaction of the host and every step that answers a next state leaves a state with it. (00_scope.md
section 3; 20_memory.md sections 1, 3 and 7; 70_reset_and_hazards.md section 2; notes/assumptions/13.md.) -/
def Obligations.EveryTransactionKeepsTheInvariant : Prop :=
  (∀ (t : Transaction) (s : State) (r : Reply), s.Inv → transact t s = .next r → r.state.Inv) ∧
  (∀ s t : State, s.Inv → step s = .next t → t.Inv)

/-- The state after reset, and every state that construction answers, has a legal configuration and a memory in which nothing is listed;
the list and its canonical form are the model's choice (log 13). (70_reset_and_hazards.md section 1; 20_memory.md section 1;
00_scope.md section 3; notes/assumptions/13.md.) -/
def Obligations.ResetHasTheInvariant : Prop :=
  (State.reset.Inv ∧ State.reset.mem = []) ∧
  ∀ (capacity start : Nat) (s : State), construct capacity start = .next s → s.Inv ∧ s.mem = []

/-- Whatever legal configuration is constructed and whatever transactions the host runs in whatever order, the state has the invariant
(its canonical form of memory is log 13); and where the phase is still Uninitialized, the pc is still the 0 of construction (D11).
(70_reset_and_hazards.md sections 1 and 2; 20_memory.md section 1; 10_state.md section 3; 92_eei_decisions.md D11;
notes/assumptions/13.md.) -/
def Obligations.ReachableStatesHaveTheInvariant : Prop :=
  (∀ s : State, Reachable s → s.Inv) ∧
  (∀ s : State, Reachable s → s.phase = .uninitialized → s.pc = 0#32)

/-- In phase Running, where pc + 4n is within memory, n steps answer a next state whose pc is the old pc plus 4n and whose memory, phase
and configuration are unchanged, whatever the n words are. The pc after an unrecognized word is D7 (log 7), that an unimplemented
word writes nothing is D9 (log 6), the wrap of the pc and the unbounded sum are D12 and D14 (log 8), and that the errors are next
states is the model's (log 2). (40_step_sequencer.md section 3; 70_reset_and_hazards.md sections 3 and 5; 92_eei_decisions.md D7,
D9, D12, D14; notes/assumptions/2.md; notes/assumptions/6.md; notes/assumptions/7.md; notes/assumptions/8.md.) -/
def Obligations.StepsWithinMemoryAllComplete : Prop :=
  ∀ (n : Nat) (s : State), s.phase = .running → s.pc.toNat + 4 * n ≤ s.config.memCapacity →
    ∃ t, runSteps n s = .next t ∧ t.pc = s.pc + BitVec.ofNat 32 (4 * n) ∧ t.phase = .running ∧ t.config = s.config ∧
      (∀ a : Nat, t.mem.read a = s.mem.read a)

/-- If n steps from a state all answer status Ok, then each of them fetched a word with ADD's match and mask. (40_step_sequencer.md
section 3; 70_reset_and_hazards.md section 5; 92_eei_decisions.md D3.) -/
def Obligations.SafeRunExecutesOnlyAdds : Prop :=
  ∀ (n : Nat) (s : State), safeRun n s = true → ∀ k : Nat, k < n →
    ∃ t w, runSteps k s = .next t ∧ t.phase = .running ∧ fetch t = .ok w ∧ IsAddWord w

/-- For every word and state, exec of the decoded instruction is the spec's execute of the classified word, followed by pc <- pc + 4:
the same registers and the same status. (40_step_sequencer.md section 2; 92_eei_decisions.md D3, D6.) -/
def Obligations.ExecAgreesWithTheSpecsExecuteStage : Prop :=
  ∀ (w : Word) (s : State),
    exec (decode w) s = .next ((execute (classify w) s).1.retire (execute (classify w) s).2)

/-- In phase Running with a legal state, where the host's word load at the pc succeeds, the next step is exec of the decoded word: there
is no prefetch and no fence is needed. This is the spec's decision D24. (20_memory.md section 10; 92_eei_decisions.md D24.) -/
def Obligations.FetchSeesTheHostsWrite : Prop :=
  ∀ (s t : State) (w : Word), s.Inv → s.phase = .running → mapWords s s.pc [w] = .ok t → step t = exec (decode w) t

/-- Where the word at the pc (the start address, while Uninitialized) can be fetched, the step after withFetchWord is exec of the
decoded word at that state. How a program comes to run is the model's choice (log 11). (70_reset_and_hazards.md section 2;
notes/assumptions/11.md.) -/
def Obligations.WithFetchWordRunsTheWordNext : Prop :=
  ∀ (s : State) (w : Word), s.mem.wf →
    (s.phase = .running → s.pc.toNat + 4 ≤ s.config.memCapacity →
      step (s.withFetchWord 32 w.toNat) = exec (decode w) (s.withFetchWord 32 w.toNat)) ∧
    (s.phase = .uninitialized → s.config.startAddress.toNat + 4 ≤ s.config.memCapacity →
      step (s.withFetchWord 32 w.toNat) = exec (decode w) (s.withFetchWord 32 w.toNat))

/-- From every Running state, any number n of steps, whatever their statuses, answers a next state that is still Running; and n + m
steps from the first state are m steps from the state that the n steps left. So there is no terminal state. (R129.) -/
def Obligations.NoStatusEndsTheRun : Prop :=
  ∀ (s : State) (n : Nat), s.phase = .running → ∃ t, runSteps n s = .next t ∧ t.phase = .running ∧
    (∃ u, step t = .next u ∧ u.phase = .running) ∧ ∀ m : Nat, runSteps (n + m) s = runSteps m t

/-- For every value of every field, the word that concatenates the fields in the order of the spec's R, I, S or U layout has those
fields under its format's accessors. The I immediate has the signed value of its 12 bits, the S immediate that of its high 7 bits
above its low 5, the U immediate is its 20 bits in the upper 20, not sign-extended. (R81; R82; R83; R85.) -/
def Obligations.FieldsOfTheRISAndULayouts : Prop :=
  ∀ (f7 op : BitVec 7) (f3 : BitVec 3) (rs2 rs1 rd lo : BitVec 5) (i12 : BitVec 12) (u20 : BitVec 20),
    (∀ x : RWord, x.word = f7 ++ rs2 ++ rs1 ++ f3 ++ rd ++ op →
      x.opcode = op ∧ x.rd = rd ∧ x.funct3 = f3 ∧ x.rs1 = rs1 ∧ x.rs2 = rs2 ∧ x.funct7 = f7) ∧
    (∀ x : IWord, x.word = i12 ++ rs1 ++ f3 ++ rd ++ op →
      x.opcode = op ∧ x.rd = rd ∧ x.funct3 = f3 ∧ x.rs1 = rs1 ∧ x.imm.toInt = i12.toInt) ∧
    (∀ x : SWord, x.word = f7 ++ rs2 ++ rs1 ++ f3 ++ lo ++ op →
      x.opcode = op ∧ x.funct3 = f3 ∧ x.rs1 = rs1 ∧ x.rs2 = rs2 ∧ x.imm.toInt = (f7 ++ lo).toInt) ∧
    (∀ x : UWord, x.word = u20 ++ rd ++ op →
      x.opcode = op ∧ x.rd = rd ∧ x.imm.toNat = u20.toNat * 2 ^ 12)

/-- For every pair of operands the ALU's sum has as its unsigned value the sum of the unsigned operands modulo 2^32 and as its signed
value the sum of the signed operands wrapped into the signed range, the same bits; 0xFFFFFFFF + 1 is 0; and ADD, for every state and
operands, answers a next state with status Ok, overflow or not. (R142.) -/
def Obligations.TheAluAddsModuloTwoToThe32 : Prop :=
  (∀ a b : Word, (aluAdd a b).toNat = (a.toNat + b.toNat) % 2 ^ 32 ∧ (aluAdd a b).toInt = (a.toInt + b.toInt).bmod (2 ^ 32)) ∧
  aluAdd 0xFFFFFFFF#32 1#32 = 0#32 ∧
  (∀ (s : State) (rd rs1 rs2 : RegIdx), ∃ t, exec (.add rd rs1 rs2) s = .next t ∧ t.status = .ok ∧
    t.regs = (s.writeReg rd (aluAdd (s.readReg rs1) (s.readReg rs2))).regs)

/-- A construction that is not refused answers a state whose capacity and start address are the arguments, and no transaction, a step
among them, changes either. (R35.) -/
def Obligations.ConfigurationIsFixedAtConstruction : Prop :=
  (∀ (capacity start : Nat) (s : State), construct capacity start = .next s →
    s.config.memCapacity = capacity ∧ s.config.startAddress.toNat = start) ∧
  (∀ (t : Transaction) (s : State) (r : Reply), transact t s = .next r →
    r.state.config.memCapacity = s.config.memCapacity ∧ r.state.config.startAddress = s.config.startAddress)

/-- From every state in which Uninitialized implies pc = 0, every transaction that answers leaves such a state; a transaction never
leaves Running; and one that goes from Uninitialized to Running is init. That pc is 0 before init is D11 (log 7). (10_state.md
section 3; 70_reset_and_hazards.md sections 1 and 2; 40_step_sequencer.md section 1; 92_eei_decisions.md D11;
notes/assumptions/7.md.) -/
def Obligations.EveryTransactionKeepsThePhaseRule : Prop :=
  ∀ (t : Transaction) (s : State) (r : Reply), (s.phase = .uninitialized → s.pc = 0#32) → transact t s = .next r →
    (r.state.phase = .uninitialized → r.state.pc = 0#32) ∧ (s.phase = .running → r.state.phase = .running) ∧
    (s.phase = .uninitialized → r.state.phase = .running → t = .init)

/-- For every value of every field, the word that concatenates the fields in the order of the spec's B or J layout has those fields
under its format's accessors. The B immediate is the signed value of bits 31, 7, 30 to 25, 11 to 8 and a zero, the J immediate that
of bits 31, 19 to 12, 20, 30 to 21 and a zero. The places are the spec's general knowledge (G2, G3, log 10), the 32-bit width is
D22, and C2 keeps the B places against the source's example. (30_encoding.md sections 2 and 3 (R84, R86, R91, R93);
93_implementation_defined.md Part B G2, G3; 92_eei_decisions.md D22; 90_conflicts.md C2; notes/assumptions/10.md.) -/
def Obligations.BitPlacesOfTheBAndJImmediates : Prop :=
  ∀ (op : BitVec 7) (f3 : BitVec 3) (rs2 rs1 rd : BitVec 5) (w31 w7 w20 : BitVec 1) (w30_25 : BitVec 6) (w11_8 : BitVec 4)
    (w19_12 : BitVec 8) (w30_21 : BitVec 10),
    (∀ x : BWord, x.word = w31 ++ w30_25 ++ rs2 ++ rs1 ++ f3 ++ w11_8 ++ w7 ++ op →
      x.opcode = op ∧ x.funct3 = f3 ∧ x.rs1 = rs1 ∧ x.rs2 = rs2 ∧ x.imm.toInt = (w31 ++ w7 ++ w30_25 ++ w11_8 ++ 0#1).toInt) ∧
    (∀ x : JWord, x.word = w31 ++ w30_21 ++ w20 ++ w19_12 ++ rd ++ op →
      x.opcode = op ∧ x.rd = rd ∧ x.imm.toInt = (w31 ++ w19_12 ++ w20 ++ w30_21 ++ 0#1).toInt)
end

