-- ==== Sys2Proof/Laws/Fields.lean ====
section
/-! SUPPORT. The fields of an encoded word: what each field function reads from each of the six layouts (30_encoding.md R81 to R86). -/

namespace Sys2Proof

section Layouts
variable (f7 : BitVec 7) (rs2 rs1 : RegIdx) (f3 : BitVec 3) (rd : RegIdx) (op : BitVec 7) (imm : Word)

@[simp] theorem opcodeOf_encodeR : opcodeOf (encodeR f7 rs2 rs1 f3 rd op) = op := by
  unfold opcodeOf encodeR; ext k hk; simp only [BitVec.getElem_extractLsb', BitVec.getLsbD_append]; grind
@[simp] theorem rdOf_encodeR : rdOf (encodeR f7 rs2 rs1 f3 rd op) = rd := by
  unfold rdOf encodeR; ext k hk; simp only [BitVec.getElem_extractLsb', BitVec.getLsbD_append]; grind
@[simp] theorem funct3Of_encodeR : funct3Of (encodeR f7 rs2 rs1 f3 rd op) = f3 := by
  unfold funct3Of encodeR; ext k hk; simp only [BitVec.getElem_extractLsb', BitVec.getLsbD_append]; grind
@[simp] theorem rs1Of_encodeR : rs1Of (encodeR f7 rs2 rs1 f3 rd op) = rs1 := by
  unfold rs1Of encodeR; ext k hk; simp only [BitVec.getElem_extractLsb', BitVec.getLsbD_append]; grind
@[simp] theorem rs2Of_encodeR : rs2Of (encodeR f7 rs2 rs1 f3 rd op) = rs2 := by
  unfold rs2Of encodeR; ext k hk; simp only [BitVec.getElem_extractLsb', BitVec.getLsbD_append]; grind
@[simp] theorem funct7Of_encodeR : funct7Of (encodeR f7 rs2 rs1 f3 rd op) = f7 := by
  unfold funct7Of encodeR; ext k hk; simp only [BitVec.getElem_extractLsb', BitVec.getLsbD_append]; grind

@[simp] theorem opcodeOf_encodeI : opcodeOf (encodeI imm rs1 f3 rd op) = op := by
  unfold opcodeOf encodeI; ext k hk; simp only [BitVec.getElem_extractLsb', BitVec.getLsbD_append]; grind
@[simp] theorem rdOf_encodeI : rdOf (encodeI imm rs1 f3 rd op) = rd := by
  unfold rdOf encodeI; ext k hk; simp only [BitVec.getElem_extractLsb', BitVec.getLsbD_append]; grind
@[simp] theorem funct3Of_encodeI : funct3Of (encodeI imm rs1 f3 rd op) = f3 := by
  unfold funct3Of encodeI; ext k hk; simp only [BitVec.getElem_extractLsb', BitVec.getLsbD_append]; grind
@[simp] theorem rs1Of_encodeI : rs1Of (encodeI imm rs1 f3 rd op) = rs1 := by
  unfold rs1Of encodeI; ext k hk; simp only [BitVec.getElem_extractLsb', BitVec.getLsbD_append]; grind
@[simp] theorem immI_encodeI : immI (encodeI imm rs1 f3 rd op) = (imm.extractLsb' 0 12).signExtend 32 := by
  unfold immI encodeI
  congr 1
  ext k hk; simp only [BitVec.getElem_extractLsb', BitVec.getLsbD_append]; grind

@[simp] theorem opcodeOf_encodeS : opcodeOf (encodeS imm rs2 rs1 f3 op) = op := by
  unfold opcodeOf encodeS; ext k hk; simp only [BitVec.getElem_extractLsb', BitVec.getLsbD_append]; grind
@[simp] theorem funct3Of_encodeS : funct3Of (encodeS imm rs2 rs1 f3 op) = f3 := by
  unfold funct3Of encodeS; ext k hk; simp only [BitVec.getElem_extractLsb', BitVec.getLsbD_append]; grind
@[simp] theorem rs1Of_encodeS : rs1Of (encodeS imm rs2 rs1 f3 op) = rs1 := by
  unfold rs1Of encodeS; ext k hk; simp only [BitVec.getElem_extractLsb', BitVec.getLsbD_append]; grind
@[simp] theorem rs2Of_encodeS : rs2Of (encodeS imm rs2 rs1 f3 op) = rs2 := by
  unfold rs2Of encodeS; ext k hk; simp only [BitVec.getElem_extractLsb', BitVec.getLsbD_append]; grind
@[simp] theorem immS_encodeS : immS (encodeS imm rs2 rs1 f3 op) = (imm.extractLsb' 0 12).signExtend 32 := by
  unfold immS encodeS
  congr 1
  ext k hk; simp only [BitVec.getElem_extractLsb', BitVec.getElem_append, BitVec.getLsbD_append, BitVec.getLsbD_extractLsb']; grind

@[simp] theorem opcodeOf_encodeB : opcodeOf (encodeB imm rs2 rs1 f3 op) = op := by
  unfold opcodeOf encodeB; ext k hk; simp only [BitVec.getElem_extractLsb', BitVec.getLsbD_append]; grind
@[simp] theorem funct3Of_encodeB : funct3Of (encodeB imm rs2 rs1 f3 op) = f3 := by
  unfold funct3Of encodeB; ext k hk; simp only [BitVec.getElem_extractLsb', BitVec.getLsbD_append]; grind
@[simp] theorem rs1Of_encodeB : rs1Of (encodeB imm rs2 rs1 f3 op) = rs1 := by
  unfold rs1Of encodeB; ext k hk; simp only [BitVec.getElem_extractLsb', BitVec.getLsbD_append]; grind
@[simp] theorem rs2Of_encodeB : rs2Of (encodeB imm rs2 rs1 f3 op) = rs2 := by
  unfold rs2Of encodeB; ext k hk; simp only [BitVec.getElem_extractLsb', BitVec.getLsbD_append]; grind
@[simp] theorem immB_encodeB : immB (encodeB imm rs2 rs1 f3 op) = (imm.extractLsb' 1 12 ++ 0#1).signExtend 32 := by
  unfold immB encodeB
  congr 1
  apply BitVec.eq_of_getLsbD_eq; intro k hk
  simp only [BitVec.getLsbD_append, BitVec.getLsbD_extractLsb']
  interval_cases k <;> simp

@[simp] theorem opcodeOf_encodeU : opcodeOf (encodeU imm rd op) = op := by
  unfold opcodeOf encodeU; ext k hk; simp only [BitVec.getElem_extractLsb', BitVec.getLsbD_append]; grind
@[simp] theorem rdOf_encodeU : rdOf (encodeU imm rd op) = rd := by
  unfold rdOf encodeU; ext k hk; simp only [BitVec.getElem_extractLsb', BitVec.getLsbD_append]; grind
@[simp] theorem immU_encodeU : immU (encodeU imm rd op) = imm.extractLsb' 12 20 ++ 0#12 := by
  unfold immU encodeU
  congr 1
  ext k hk; simp only [BitVec.getElem_extractLsb', BitVec.getLsbD_append]; grind

@[simp] theorem opcodeOf_encodeJ : opcodeOf (encodeJ imm rd op) = op := by
  unfold opcodeOf encodeJ; ext k hk; simp only [BitVec.getElem_extractLsb', BitVec.getLsbD_append]; grind
@[simp] theorem rdOf_encodeJ : rdOf (encodeJ imm rd op) = rd := by
  unfold rdOf encodeJ; ext k hk; simp only [BitVec.getElem_extractLsb', BitVec.getLsbD_append]; grind
@[simp] theorem immJ_encodeJ : immJ (encodeJ imm rd op) = (imm.extractLsb' 1 20 ++ 0#1).signExtend 32 := by
  unfold immJ encodeJ
  congr 1
  apply BitVec.eq_of_getLsbD_eq; intro k hk
  simp only [BitVec.getLsbD_append, BitVec.getLsbD_extractLsb']
  interval_cases k <;> simp

end Layouts

end Sys2Proof
end

