-- ==== Sys2Proof/Laws/Decode.lean ====
section
/-! SUPPORT. A word is its fields, and the masks of the opcode table test fields: what `w AND mask = pattern` says of opcode, funct3 and
funct7 (30_encoding.md R81, R109). With these, when the decoder answers ADD, and when it answers "unrecognized" (R102, R140). -/

namespace Sys2Proof

/-- A word is the R-type layout of its own fields: no bit is outside them (R81). -/
theorem encodeR_fields (w : Word) : encodeR (funct7Of w) (rs2Of w) (rs1Of w) (funct3Of w) (rdOf w) (opcodeOf w) = w := by
  unfold encodeR funct7Of rs2Of rs1Of funct3Of rdOf opcodeOf
  ext k hk
  simp only [BitVec.getElem_append, BitVec.getElem_extractLsb']
  grind

/-- A mask that tests funct7, funct3 and opcode keeps just the parts of those fields. -/
theorem encodeR_and (f7 m7 : BitVec 7) (rs2 rs1 rd : RegIdx) (f3 m3 : BitVec 3) (op mo : BitVec 7) :
    encodeR f7 rs2 rs1 f3 rd op &&& encodeR m7 0#5 0#5 m3 0#5 mo = encodeR (f7 &&& m7) 0#5 0#5 (f3 &&& m3) 0#5 (op &&& mo) := by
  change ((f7 ++ rs2 ++ rs1 ++ f3 ++ rd ++ op) &&& (m7 ++ 0#5 ++ 0#5 ++ m3 ++ 0#5 ++ mo) : BitVec (7 + 5 + 5 + 3 + 5 + 7)) = _
  simp only [BitVec.and_append, BitVec.and_zero]
  rfl

theorem encodeR_inj {f7 g7 : BitVec 7} {f3 g3 : BitVec 3} {op oq : BitVec 7} :
    encodeR f7 0#5 0#5 f3 0#5 op = encodeR g7 0#5 0#5 g3 0#5 oq ↔ f7 = g7 ∧ f3 = g3 ∧ op = oq := by
  constructor
  · intro h
    exact ⟨by simpa using congrArg funct7Of h, by simpa using congrArg funct3Of h, by simpa using congrArg opcodeOf h⟩
  · rintro ⟨rfl, rfl, rfl⟩; rfl

theorem allOnes7_and (x : BitVec 7) : x &&& 0x7F#7 = x := by simpa using BitVec.and_allOnes (x := x)
theorem allOnes3_and (x : BitVec 3) : x &&& 0x7#3 = x := by simpa using BitVec.and_allOnes (x := x)

/-- The mask 0x0000007F tests the opcode. -/
theorem maskOpcode_iff (w : Word) (op : BitVec 7) :
    w &&& 0x0000007F#32 = encodeR 0#7 0#5 0#5 0#3 0#5 op ↔ opcodeOf w = op := by
  have hm : (0x0000007F#32 : Word) = encodeR 0#7 0#5 0#5 0#3 0#5 0x7F#7 := by decide
  conv_lhs => rw [← encodeR_fields w, hm, encodeR_and, encodeR_inj]
  simp [allOnes7_and]

/-- The mask 0x0000707F tests the opcode and funct3. -/
theorem maskFunct3_iff (w : Word) (f3 : BitVec 3) (op : BitVec 7) :
    w &&& 0x0000707F#32 = encodeR 0#7 0#5 0#5 f3 0#5 op ↔ funct3Of w = f3 ∧ opcodeOf w = op := by
  have hm : (0x0000707F#32 : Word) = encodeR 0#7 0#5 0#5 0x7#3 0#5 0x7F#7 := by decide
  conv_lhs => rw [← encodeR_fields w, hm, encodeR_and, encodeR_inj]
  simp [allOnes7_and, allOnes3_and]

/-- The mask 0xFE00707F tests the opcode, funct3 and funct7. -/
theorem maskFunct7_iff (w : Word) (f7 : BitVec 7) (f3 : BitVec 3) (op : BitVec 7) :
    w &&& 0xFE00707F#32 = encodeR f7 0#5 0#5 f3 0#5 op ↔ funct7Of w = f7 ∧ funct3Of w = f3 ∧ opcodeOf w = op := by
  have hm : (0xFE00707F#32 : Word) = encodeR 0x7F#7 0#5 0#5 0x7#3 0#5 0x7F#7 := by decide
  conv_lhs => rw [← encodeR_fields w, hm, encodeR_and, encodeR_inj]
  simp [allOnes7_and, allOnes3_and]

/-- The ADD row's mask and pattern (R140) in terms of fields. -/
theorem addMask_iff (w : Word) :
    w &&& 0xFE00707F#32 = 0x00000033#32 ↔ funct7Of w = 0b0000000#7 ∧ funct3Of w = 0b000#3 ∧ opcodeOf w = opcodeOp := by
  have hp : (0x00000033#32 : Word) = encodeR 0b0000000#7 0#5 0#5 0b000#3 0#5 opcodeOp := by decide
  rw [hp, maskFunct7_iff]

/-! ## The decoder by opcode (R101, R109) -/

variable {w : Word}

theorem decode_of_opcodeOp (h : opcodeOf w = opcodeOp) : decode w = decodeOp ⟨w⟩ := by
  unfold decode classify; rw [h]; rfl

theorem decode_of_opcodeStore (h : opcodeOf w = opcodeStore) : decode w = decodeStore ⟨w⟩ := by
  unfold decode classify; rw [h]; rfl

theorem decode_of_opcodeBranch (h : opcodeOf w = opcodeBranch) : decode w = decodeBranch ⟨w⟩ := by
  unfold decode classify; rw [h]; rfl

theorem decode_of_opcodeJal (h : opcodeOf w = opcodeJal) : decode w = .jal (rdOf w) (immJ w) := by
  unfold decode classify; rw [h]; rfl

theorem decode_of_opcodeSystem (h : opcodeOf w = opcodeSystem) : decode w = decodeSystem w := by
  unfold decode classify; rw [h]; rfl

theorem decode_of_opcodeOpImm (h : opcodeOf w = opcodeOpImm) : decode w = decodeOpImm ⟨w⟩ := by
  unfold decode classify; rw [h]; change decodeI ⟨w⟩ = _; unfold decodeI IWord.opcode; rw [h]; rfl

theorem decode_of_opcodeLoad (h : opcodeOf w = opcodeLoad) : decode w = decodeLoad ⟨w⟩ := by
  unfold decode classify; rw [h]; change decodeI ⟨w⟩ = _; unfold decodeI IWord.opcode; rw [h]; rfl

theorem decode_of_opcodeJalr (h : opcodeOf w = opcodeJalr) : decode w = decodeJalr ⟨w⟩ := by
  unfold decode classify; rw [h]; change decodeI ⟨w⟩ = _; unfold decodeI IWord.opcode; rw [h]; rfl

theorem decode_of_opcodeMiscMem (h : opcodeOf w = opcodeMiscMem) : decode w = decodeMiscMem ⟨w⟩ := by
  unfold decode classify; rw [h]; change decodeI ⟨w⟩ = _; unfold decodeI IWord.opcode; rw [h]; rfl

theorem decode_of_opcodeLui (h : opcodeOf w = opcodeLui) : decode w = .lui (rdOf w) (immU w) := by
  unfold decode classify; rw [h]; change decodeU ⟨w⟩ = _; unfold decodeU UWord.opcode; rw [h]; rfl

theorem decode_of_opcodeAuipc (h : opcodeOf w = opcodeAuipc) : decode w = .auipc (rdOf w) (immU w) := by
  unfold decode classify; rw [h]; change decodeU ⟨w⟩ = _; unfold decodeU UWord.opcode; rw [h]; rfl

theorem decode_of_noClass (h : opcodeOf w ∉ recognizedOpcodes) : decode w = .unrecognized w := by
  simp only [recognizedOpcodes, List.mem_cons, List.not_mem_nil, or_false, not_or] at h
  simp only [decode, classify, h, if_false]

/-- A word with ADD's mask and pattern decodes to ADD with its R-type fields. -/
theorem decode_of_addWord (h : w &&& 0xFE00707F#32 = 0x00000033#32) : decode w = .add (rdOf w) (rs1Of w) (rs2Of w) := by
  obtain ⟨h7, h3, ho⟩ := (addMask_iff w).mp h
  rw [decode_of_opcodeOp ho]
  simp [decodeOp, RWord.funct7, RWord.funct3, RWord.rd, RWord.rs1, RWord.rs2, h7, h3]

/-- Only a word with ADD's mask and pattern decodes to ADD. -/
theorem addWord_of_decode {rd rs1 rs2 : RegIdx} (h : decode w = .add rd rs1 rs2) : w &&& 0xFE00707F#32 = 0x00000033#32 := by
  refine (addMask_iff w).mpr ?_
  by_cases hr : opcodeOf w ∈ recognizedOpcodes
  · simp only [recognizedOpcodes, List.mem_cons, List.not_mem_nil, or_false] at hr
    rcases hr with ho | ho | ho | ho | ho | ho | ho | ho | ho | ho | ho
    · rw [decode_of_opcodeOp ho] at h; unfold decodeOp at h; split_ifs at h with h7 h3
      exact ⟨h7, h3, ho⟩
    · rw [decode_of_opcodeOpImm ho] at h; unfold decodeOpImm at h; split_ifs at h
    · rw [decode_of_opcodeLoad ho] at h; unfold decodeLoad at h; split_ifs at h
    · rw [decode_of_opcodeJalr ho] at h; unfold decodeJalr at h; split_ifs at h
    · rw [decode_of_opcodeMiscMem ho] at h; unfold decodeMiscMem at h; split_ifs at h
    · rw [decode_of_opcodeStore ho] at h; unfold decodeStore at h; split_ifs at h
    · rw [decode_of_opcodeBranch ho] at h; unfold decodeBranch at h; split_ifs at h
    · rw [decode_of_opcodeLui ho] at h; cases h
    · rw [decode_of_opcodeAuipc ho] at h; cases h
    · rw [decode_of_opcodeJal ho] at h; cases h
    · rw [decode_of_opcodeSystem ho] at h; unfold decodeSystem at h; split_ifs at h
  · rw [decode_of_noClass hr] at h; cases h

/-- A word decodes to "unrecognized" exactly when its opcode is in no class, and it is then carried whole. -/
theorem decode_eq_unrecognized {v : Word} (h : decode w = .unrecognized v) : v = w ∧ opcodeOf w ∉ recognizedOpcodes := by
  by_cases hr : opcodeOf w ∈ recognizedOpcodes
  · exfalso
    simp only [recognizedOpcodes, List.mem_cons, List.not_mem_nil, or_false] at hr
    rcases hr with ho | ho | ho | ho | ho | ho | ho | ho | ho | ho | ho
    · rw [decode_of_opcodeOp ho] at h; unfold decodeOp at h; split_ifs at h
    · rw [decode_of_opcodeOpImm ho] at h; unfold decodeOpImm at h; split_ifs at h
    · rw [decode_of_opcodeLoad ho] at h; unfold decodeLoad at h; split_ifs at h
    · rw [decode_of_opcodeJalr ho] at h; unfold decodeJalr at h; split_ifs at h
    · rw [decode_of_opcodeMiscMem ho] at h; unfold decodeMiscMem at h; split_ifs at h
    · rw [decode_of_opcodeStore ho] at h; unfold decodeStore at h; split_ifs at h
    · rw [decode_of_opcodeBranch ho] at h; unfold decodeBranch at h; split_ifs at h
    · rw [decode_of_opcodeLui ho] at h; cases h
    · rw [decode_of_opcodeAuipc ho] at h; cases h
    · rw [decode_of_opcodeJal ho] at h; cases h
    · rw [decode_of_opcodeSystem ho] at h; unfold decodeSystem at h; split_ifs at h
  · rw [decode_of_noClass hr] at h
    exact ⟨(Instr.unrecognized.inj h).symm, hr⟩

end Sys2Proof
end

