-- ==== Sys2Proof/Laws/State.lean ====
section
/-! SUPPORT. The fields of the state after each named update: one lemma for each field of each update, so that no proof unfolds one. -/

namespace Sys2Proof.Machine

variable (s : State) (st : Status) (i : RegIdx) (v : Word)

@[simp] theorem State.returns_config : (s.returns st).config = s.config := rfl
@[simp] theorem State.returns_regs : (s.returns st).regs = s.regs := rfl
@[simp] theorem State.returns_pc : (s.returns st).pc = s.pc := rfl
@[simp] theorem State.returns_phase : (s.returns st).phase = s.phase := rfl
@[simp] theorem State.returns_mem : (s.returns st).mem = s.mem := rfl
@[simp] theorem State.returns_status : (s.returns st).status = st := rfl

@[simp] theorem State.retire_config : (s.retire st).config = s.config := rfl
@[simp] theorem State.retire_regs : (s.retire st).regs = s.regs := rfl
@[simp] theorem State.retire_pc : (s.retire st).pc = s.pc + 4#32 := rfl
@[simp] theorem State.retire_phase : (s.retire st).phase = s.phase := rfl
@[simp] theorem State.retire_mem : (s.retire st).mem = s.mem := rfl
@[simp] theorem State.retire_status : (s.retire st).status = st := rfl

@[simp] theorem State.init_config : s.init.config = s.config := rfl
@[simp] theorem State.init_regs : s.init.regs = s.regs := rfl
@[simp] theorem State.init_pc : s.init.pc = s.config.startAddress := rfl
@[simp] theorem State.init_phase : s.init.phase = .running := rfl
@[simp] theorem State.init_mem : s.init.mem = s.mem := rfl
@[simp] theorem State.init_status : s.init.status = .ok := rfl

@[simp] theorem State.writeReg_config : (s.writeReg i v).config = s.config := by unfold State.writeReg; split <;> rfl
@[simp] theorem State.writeReg_pc : (s.writeReg i v).pc = s.pc := by unfold State.writeReg; split <;> rfl
@[simp] theorem State.writeReg_phase : (s.writeReg i v).phase = s.phase := by unfold State.writeReg; split <;> rfl
@[simp] theorem State.writeReg_mem : (s.writeReg i v).mem = s.mem := by unfold State.writeReg; split <;> rfl
@[simp] theorem State.writeReg_status : (s.writeReg i v).status = s.status := by unfold State.writeReg; split <;> rfl

/-- A register read depends on the registers only. -/
theorem State.readReg_congr {s t : State} (h : s.regs = t.regs) (i : RegIdx) : s.readReg i = t.readReg i := by
  unfold State.readReg
  split
  · rfl
  · simp only [h]

@[simp] theorem State.readReg_returns : (s.returns st).readReg i = s.readReg i := State.readReg_congr rfl i
@[simp] theorem State.readReg_retire : (s.retire st).readReg i = s.readReg i := State.readReg_congr rfl i
@[simp] theorem State.readReg_init : s.init.readReg i = s.readReg i := State.readReg_congr rfl i
@[simp] theorem State.writeReg_zero : s.writeReg 0#5 v = s := rfl
@[simp] theorem State.readReg_zero : s.readReg 0#5 = 0#32 := rfl

/-- Reading a register after a write: the written one, unless it is x0, holds the value, and every other one what it held. -/
theorem State.readReg_writeReg (j : RegIdx) :
    (s.writeReg i v).readReg j = if j = i ∧ j ≠ 0#5 then v else s.readReg j := by
  unfold State.readReg State.writeReg
  by_cases hj : j = 0#5
  · simp [hj]
  by_cases hi : i = 0#5
  · have hne : j ≠ i := fun e => hj (e.trans hi)
    simp [hi, hj]
  by_cases e : j = i
  · subst e; simp [hj]
  · have hij : i.toNat ≠ j.toNat := fun h => e (BitVec.eq_of_toNat_eq h.symm)
    have hi0 : i.toNat ≠ 0 := fun h => hi (BitVec.eq_of_toNat_eq (by simpa using h))
    have hj0 : j.toNat ≠ 0 := fun h => hj (BitVec.eq_of_toNat_eq (by simpa using h))
    have hcell : i.toNat - 1 ≠ j.toNat - 1 := by omega
    simp [hi, hj, e, hcell]

end Sys2Proof.Machine
end

