-- ==== Sys2Proof/Laws/Exec.lean ====
section
/-! SUPPORT. What one step can do, said once: the three outcomes of the execute stage (40_step_sequencer.md R125), and the outcomes of a
fetch and of a step (R121 to R130). Later proofs cite these instead of unfolding `exec` or `step`. -/

namespace Sys2Proof.Machine

/-- Everything the execute stage can do: ADD, a word of no class, or a recognized word without semantics. -/
theorem exec_cases (i : Instr) (s : State) :
    (∃ rd rs1 rs2, i = .add rd rs1 rs2 ∧
      exec i s = .next ((s.writeReg rd (s.readReg rs1 + s.readReg rs2)).retire .ok)) ∨
    (∃ w, i = .unrecognized w ∧ exec i s = .next (s.retire (.unrecognizedOpcode w))) ∨
    ((∀ rd rs1 rs2, i ≠ .add rd rs1 rs2) ∧ (∀ w, i ≠ .unrecognized w) ∧
      exec i s = .next (s.retire (.unimplementedInstruction (encode i)))) := by
  cases i
  case add rd rs1 rs2 => exact .inl ⟨rd, rs1, rs2, rfl, rfl⟩
  case unrecognized w => exact .inr (.inl ⟨w, rfl, rfl⟩)
  all_goals exact .inr (.inr ⟨nofun, nofun, rfl⟩)

/-- The access is in range exactly when its end is within memory (R54). -/
@[simp] theorem inRange_iff (c : Config) (a n : Nat) : inRange c a n = true ↔ a + n ≤ c.memCapacity := by
  simp [inRange]

/-- A fetch in range gives the four bytes at the pc, little-endian (R55, R123). -/
theorem fetch_of_inRange {s : State} (h : s.pc.toNat + 4 ≤ s.config.memCapacity) :
    fetch s = .ok (wordOfBytes (s.mem.read s.pc.toNat) (s.mem.read (s.pc.toNat + 1)) (s.mem.read (s.pc.toNat + 2))
      (s.mem.read (s.pc.toNat + 3))) := by
  simp [fetch, memRead32, h]

/-- A fetch out of range gives the status MemoryFault with the pc (R123). -/
theorem fetch_of_outOfRange {s : State} (h : s.config.memCapacity < s.pc.toNat + 4) :
    fetch s = .error (.memoryFault s.pc) := by
  have : ¬ s.pc.toNat + 4 ≤ s.config.memCapacity := by omega
  simp [fetch, memRead32, this]

/-- A fetch answers a word exactly in range, and otherwise MemoryFault. -/
theorem fetch_cases (s : State) :
    (s.pc.toNat + 4 ≤ s.config.memCapacity ∧ ∃ w, fetch s = .ok w) ∨
    (s.config.memCapacity < s.pc.toNat + 4 ∧ fetch s = .error (.memoryFault s.pc)) := by
  rcases Nat.lt_or_ge s.config.memCapacity (s.pc.toNat + 4) with h | h
  · exact .inr ⟨h, fetch_of_outOfRange h⟩
  · exact .inl ⟨h, _, fetch_of_inRange h⟩

/-- A step whose fetch succeeds is the execute stage of the decoded word. -/
theorem step_of_fetch {s : State} {w : Word} (hp : s.phase = .running) (hf : fetch s = .ok w) :
    step s = exec (decode w) s := by
  simp [step, hp, hf]

/-- A step whose fetch fails returns the status and changes nothing else (R130). -/
theorem step_of_fetch_error {s : State} {st : Status} (hp : s.phase = .running) (hf : fetch s = .error st) :
    step s = .next (s.returns st) := by
  simp [step, hp, hf]

/-- Everything a step can do. -/
theorem step_cases (s : State) :
    (s.phase = .uninitialized ∧ step s = .refused .stepBeforeInit) ∨
    (s.phase = .running ∧ s.config.memCapacity < s.pc.toNat + 4 ∧ step s = .next (s.returns (.memoryFault s.pc))) ∨
    (s.phase = .running ∧ s.pc.toNat + 4 ≤ s.config.memCapacity ∧ ∃ w, fetch s = .ok w ∧ step s = exec (decode w) s) := by
  cases hp : s.phase
  · exact .inl ⟨rfl, by simp [step, hp]⟩
  · rcases fetch_cases s with ⟨h, w, hf⟩ | ⟨h, hf⟩
    · exact .inr (.inr ⟨rfl, h, w, hf, step_of_fetch hp hf⟩)
    · exact .inr (.inl ⟨rfl, h, step_of_fetch_error hp hf⟩)

end Sys2Proof.Machine
end

