-- ==== Sys2Proof/Laws/Memory.lean ====
section
/-! SUPPORT. The laws of memory as plain storage (20_memory.md R65): a read after a write, and that every memory operation keeps the
canonical form and the bound on the listed addresses. -/

namespace Sys2Proof.Machine

/-- An address below every listed one reads as an unlisted address. -/
theorem Memory.read_of_lt {m : Memory} {a : Nat} (h : ∀ c ∈ m, a < c.1) : m.read a = unlistedByte := by
  induction m with
  | nil => rfl
  | cons e m ih =>
    obtain ⟨k, v⟩ := e
    have hk : k ≠ a := Nat.ne_of_gt (h (k, v) List.mem_cons_self)
    simp only [Memory.read, hk, if_false]
    exact ih fun c hc => h c (List.mem_cons_of_mem _ hc)

/-- A read after a write: the byte written, or what the address held. -/
theorem Memory.read_write (m : Memory) (a : Nat) (b : Byte) (c : Nat) (h : m.Pairwise (fun x y => x.1 < y.1)) :
    (m.write a b).read c = if c = a then b else m.read c := by
  induction m with
  | nil =>
    by_cases hb : b = unlistedByte <;> by_cases hc : c = a <;> simp_all [Memory.write, Memory.read, eq_comm]
  | cons e m ih =>
    obtain ⟨k, v⟩ := e
    rw [List.pairwise_cons] at h
    obtain ⟨hk, hm⟩ := h
    simp only [Memory.write]
    by_cases h1 : a < k
    · have hlow : Memory.read ((k, v) :: m) a = unlistedByte := by
        refine Memory.read_of_lt fun y hy => ?_
        rcases List.mem_cons.mp hy with rfl | hy
        · exact h1
        · exact lt_trans h1 (hk y hy)
      simp only [h1, if_true]
      by_cases hb : b = unlistedByte
      · by_cases hc : c = a
        · subst hc; simp only [hb, if_true, hlow]
        · simp [hb, hc]
      · by_cases hc : c = a
        · subst hc; simp [hb, Memory.read]
        · have : a ≠ c := fun e => hc e.symm
          simp only [hb, if_false, hc]
          simp only [Memory.read, this, if_false]
    · by_cases h2 : a = k
      · subst h2
        simp only [lt_irrefl, if_false, if_true]
        by_cases hc : c = a
        · subst hc
          by_cases hb : b = unlistedByte
          · simp only [hb, if_true]; exact Memory.read_of_lt hk
          · simp [hb, Memory.read]
        · have : a ≠ c := fun e => hc e.symm
          by_cases hb : b = unlistedByte <;> simp [hb, Memory.read, this, hc]
      · simp only [h1, h2, if_false]
        by_cases hc : k = c
        · subst hc
          have : k ≠ a := fun e => h2 e.symm
          simp [Memory.read, this]
        · simp only [Memory.read, hc, if_false]
          exact ih hm

/-- What a write lists: entries of the old memory, and the written byte where it is not the unlisted one. -/
theorem Memory.mem_write {m : Memory} {a : Nat} {b : Byte} {c : Host.Cell} (h : c ∈ m.write a b) :
    c ∈ m ∨ (c = (a, b) ∧ b ≠ unlistedByte) := by
  induction m with
  | nil => by_cases hb : b = unlistedByte <;> simp_all [Memory.write]
  | cons e m ih =>
    obtain ⟨k, v⟩ := e
    simp only [Memory.write] at h
    split at h
    · split at h
      · exact .inl h
      · rcases List.mem_cons.mp h with rfl | h
        · exact .inr ⟨rfl, ‹_›⟩
        · exact .inl h
    · split at h
      · split at h
        · exact .inl (List.mem_cons_of_mem _ h)
        · rcases List.mem_cons.mp h with rfl | h
          · exact .inr ⟨rfl, ‹_›⟩
          · exact .inl (List.mem_cons_of_mem _ h)
      · rcases List.mem_cons.mp h with rfl | h
        · exact .inl List.mem_cons_self
        · rcases ih h with h | h
          · exact .inl (List.mem_cons_of_mem _ h)
          · exact .inr h

/-- A write keeps the canonical form. -/
theorem Memory.write_wf {m : Memory} (h : m.wf) (a : Nat) (b : Byte) : (m.write a b).wf := by
  refine ⟨?_, fun c hc => ?_⟩
  · obtain ⟨hp, -⟩ := h
    induction m with
    | nil => by_cases hb : b = unlistedByte <;> simp [Memory.write, hb]
    | cons e m ih =>
      obtain ⟨k, v⟩ := e
      obtain ⟨hk, hm⟩ := List.pairwise_cons.mp hp
      simp only [Memory.write]
      split
      · split
        · exact hp
        · refine List.pairwise_cons.mpr ⟨fun y hy => ?_, hp⟩
          rcases List.mem_cons.mp hy with rfl | hy
          · assumption
          · exact lt_trans ‹a < k› (hk y hy)
      · split
        · split
          · exact hm
          · exact List.pairwise_cons.mpr ⟨fun y hy => ‹a = k› ▸ hk y hy, hm⟩
        · refine List.pairwise_cons.mpr ⟨fun y hy => ?_, ih hm⟩
          rcases Memory.mem_write hy with hy | ⟨rfl, -⟩
          · exact hk y hy
          · show k < a; omega
  · rcases Memory.mem_write hc with hc | ⟨rfl, hb⟩
    · exact h.2 c hc
    · exact hb

/-- A write below a bound keeps every listed address below it. -/
theorem Memory.write_below {m : Memory} {n : Nat} (h : m.below n) {a : Nat} (ha : a < n) (b : Byte) : (m.write a b).below n := by
  intro c hc
  rcases Memory.mem_write hc with hc | ⟨rfl, -⟩
  · exact h c hc
  · exact ha

/-- A run of writes keeps the canonical form. -/
theorem Memory.writeBytes_wf {m : Memory} (h : m.wf) (o : Nat) (bs : List Byte) : (m.writeBytes o bs).wf := by
  induction bs generalizing m o with
  | nil => exact h
  | cons b bs ih => exact ih (Memory.write_wf h o b) (o + 1)

/-- A run of writes that ends below a bound keeps every listed address below it. -/
theorem Memory.writeBytes_below {m : Memory} {n : Nat} (h : m.below n) {o : Nat} {bs : List Byte} (ho : o + bs.length ≤ n) :
    (m.writeBytes o bs).below n := by
  induction bs generalizing m o with
  | nil => exact h
  | cons b bs ih =>
    simp only [List.length_cons] at ho
    exact ih (Memory.write_below h (by omega) b) (by omega)

/-- A read after a run of writes: the byte written there, or what the address held. -/
theorem Memory.read_writeBytes {m : Memory} (h : m.wf) (o : Nat) (bs : List Byte) (a : Nat) :
    (m.writeBytes o bs).read a = if o ≤ a then (bs[a - o]?).getD (m.read a) else m.read a := by
  induction bs generalizing m o with
  | nil => simp [Memory.writeBytes]
  | cons b bs ih =>
    simp only [Memory.writeBytes]
    rw [ih (Memory.write_wf h o b), Memory.read_write m o b a h.1]
    by_cases h1 : o + 1 ≤ a
    · have h2 : o ≤ a := by omega
      have h3 : a ≠ o := by omega
      have h4 : a - o = (a - (o + 1)) + 1 := by omega
      simp only [h1, h2, h3, if_true, if_false]
      rw [h4, List.getElem?_cons_succ]
    · by_cases h2 : a = o
      · subst h2; simp
      · have h3 : ¬ o ≤ a := by omega
        simp [h1, h2, h3]

end Sys2Proof.Machine
end

