-- ==== Sys2Proof/Laws/PerInstr.lean ====
section
/-! SUPPORT. The family `RowTakes`, one lemma for each constructor of `Instr`: the word of a well-formed instruction falls under its own
row of the opcode table, pattern and mask (30_encoding.md R109). -/

namespace Sys2Proof

/-- A row whose mask tests the opcode takes the words of that opcode. -/
theorem takes_of_opcode {n : String} {p w : Word} (op : BitVec 7) (hp : p = encodeR 0#7 0#5 0#5 0#3 0#5 op)
    (h : opcodeOf w = op) : (TableRow.mk n p 0x0000007F#32).takes w = true := by
  subst hp; simpa [TableRow.takes] using (maskOpcode_iff w op).mpr h

/-- A row whose mask tests the opcode and funct3. -/
theorem takes_of_funct3 {n : String} {p w : Word} (f3 : BitVec 3) (op : BitVec 7) (hp : p = encodeR 0#7 0#5 0#5 f3 0#5 op)
    (h : funct3Of w = f3 ∧ opcodeOf w = op) : (TableRow.mk n p 0x0000707F#32).takes w = true := by
  subst hp; simpa [TableRow.takes] using (maskFunct3_iff w f3 op).mpr h

/-- A row whose mask tests the opcode, funct3 and funct7. -/
theorem takes_of_funct7 {n : String} {p w : Word} (f7 : BitVec 7) (f3 : BitVec 3) (op : BitVec 7)
    (hp : p = encodeR f7 0#5 0#5 f3 0#5 op) (h : funct7Of w = f7 ∧ funct3Of w = f3 ∧ opcodeOf w = op) :
    (TableRow.mk n p 0xFE00707F#32).takes w = true := by
  subst hp; simpa [TableRow.takes] using (maskFunct7_iff w f7 f3 op).mpr h

/-- The upper seven bits of an I-type word are imm[11:5] (R82). -/
theorem funct7Of_encodeI (imm : Word) (rs1 rd : RegIdx) (f3 : BitVec 3) (op : BitVec 7) :
    funct7Of (encodeI imm rs1 f3 rd op) = imm.extractLsb' 5 7 := by
  unfold funct7Of encodeI; ext k hk; simp only [BitVec.getElem_extractLsb', BitVec.getLsbD_append]; grind

end Sys2Proof

namespace Sys2Proof.Laws.RowTakes

/-- The instruction's word, if the instruction is well-formed, falls under the row that has its mnemonic. -/
def Statement (i : Instr) : Prop :=
  i.wf = true → ∃ r ∈ opcodeTable, r.mnemonic = i.mnemonic ∧ r.takes (encode i) = true

theorem add (rd rs1 rs2 : RegIdx) : Statement (.add rd rs1 rs2) :=
  fun _ => ⟨⟨"ADD", 0x00000033#32, 0xFE00707F#32⟩, List.mem_of_getElem? (i := 0) rfl, rfl, takes_of_funct7 0b0000000#7 0b000#3 opcodeOp (by decide) (by simp [encode])⟩

theorem sub (rd rs1 rs2 : RegIdx) : Statement (.sub rd rs1 rs2) :=
  fun _ => ⟨⟨"SUB", 0x40000033#32, 0xFE00707F#32⟩, List.mem_of_getElem? (i := 1) rfl, rfl, takes_of_funct7 0b0100000#7 0b000#3 opcodeOp (by decide) (by simp [encode])⟩

theorem sll (rd rs1 rs2 : RegIdx) : Statement (.sll rd rs1 rs2) :=
  fun _ => ⟨⟨"SLL", 0x00001033#32, 0xFE00707F#32⟩, List.mem_of_getElem? (i := 2) rfl, rfl, takes_of_funct7 0b0000000#7 0b001#3 opcodeOp (by decide) (by simp [encode])⟩

theorem slt (rd rs1 rs2 : RegIdx) : Statement (.slt rd rs1 rs2) :=
  fun _ => ⟨⟨"SLT", 0x00002033#32, 0xFE00707F#32⟩, List.mem_of_getElem? (i := 3) rfl, rfl, takes_of_funct7 0b0000000#7 0b010#3 opcodeOp (by decide) (by simp [encode])⟩

theorem sltu (rd rs1 rs2 : RegIdx) : Statement (.sltu rd rs1 rs2) :=
  fun _ => ⟨⟨"SLTU", 0x00003033#32, 0xFE00707F#32⟩, List.mem_of_getElem? (i := 4) rfl, rfl, takes_of_funct7 0b0000000#7 0b011#3 opcodeOp (by decide) (by simp [encode])⟩

theorem xor (rd rs1 rs2 : RegIdx) : Statement (.xor rd rs1 rs2) :=
  fun _ => ⟨⟨"XOR", 0x00004033#32, 0xFE00707F#32⟩, List.mem_of_getElem? (i := 5) rfl, rfl, takes_of_funct7 0b0000000#7 0b100#3 opcodeOp (by decide) (by simp [encode])⟩

theorem srl (rd rs1 rs2 : RegIdx) : Statement (.srl rd rs1 rs2) :=
  fun _ => ⟨⟨"SRL", 0x00005033#32, 0xFE00707F#32⟩, List.mem_of_getElem? (i := 6) rfl, rfl, takes_of_funct7 0b0000000#7 0b101#3 opcodeOp (by decide) (by simp [encode])⟩

theorem sra (rd rs1 rs2 : RegIdx) : Statement (.sra rd rs1 rs2) :=
  fun _ => ⟨⟨"SRA", 0x40005033#32, 0xFE00707F#32⟩, List.mem_of_getElem? (i := 7) rfl, rfl, takes_of_funct7 0b0100000#7 0b101#3 opcodeOp (by decide) (by simp [encode])⟩

theorem or (rd rs1 rs2 : RegIdx) : Statement (.or rd rs1 rs2) :=
  fun _ => ⟨⟨"OR", 0x00006033#32, 0xFE00707F#32⟩, List.mem_of_getElem? (i := 8) rfl, rfl, takes_of_funct7 0b0000000#7 0b110#3 opcodeOp (by decide) (by simp [encode])⟩

theorem and (rd rs1 rs2 : RegIdx) : Statement (.and rd rs1 rs2) :=
  fun _ => ⟨⟨"AND", 0x00007033#32, 0xFE00707F#32⟩, List.mem_of_getElem? (i := 9) rfl, rfl, takes_of_funct7 0b0000000#7 0b111#3 opcodeOp (by decide) (by simp [encode])⟩

theorem mul (rd rs1 rs2 : RegIdx) : Statement (.mul rd rs1 rs2) :=
  fun _ => ⟨⟨"MUL", 0x02000033#32, 0xFE00707F#32⟩, List.mem_of_getElem? (i := 10) rfl, rfl, takes_of_funct7 0b0000001#7 0b000#3 opcodeOp (by decide) (by simp [encode])⟩

theorem mulh (rd rs1 rs2 : RegIdx) : Statement (.mulh rd rs1 rs2) :=
  fun _ => ⟨⟨"MULH", 0x02001033#32, 0xFE00707F#32⟩, List.mem_of_getElem? (i := 11) rfl, rfl, takes_of_funct7 0b0000001#7 0b001#3 opcodeOp (by decide) (by simp [encode])⟩

theorem mulhsu (rd rs1 rs2 : RegIdx) : Statement (.mulhsu rd rs1 rs2) :=
  fun _ => ⟨⟨"MULHSU", 0x02002033#32, 0xFE00707F#32⟩, List.mem_of_getElem? (i := 12) rfl, rfl, takes_of_funct7 0b0000001#7 0b010#3 opcodeOp (by decide) (by simp [encode])⟩

theorem mulhu (rd rs1 rs2 : RegIdx) : Statement (.mulhu rd rs1 rs2) :=
  fun _ => ⟨⟨"MULHU", 0x02003033#32, 0xFE00707F#32⟩, List.mem_of_getElem? (i := 13) rfl, rfl, takes_of_funct7 0b0000001#7 0b011#3 opcodeOp (by decide) (by simp [encode])⟩

theorem div (rd rs1 rs2 : RegIdx) : Statement (.div rd rs1 rs2) :=
  fun _ => ⟨⟨"DIV", 0x02004033#32, 0xFE00707F#32⟩, List.mem_of_getElem? (i := 14) rfl, rfl, takes_of_funct7 0b0000001#7 0b100#3 opcodeOp (by decide) (by simp [encode])⟩

theorem divu (rd rs1 rs2 : RegIdx) : Statement (.divu rd rs1 rs2) :=
  fun _ => ⟨⟨"DIVU", 0x02005033#32, 0xFE00707F#32⟩, List.mem_of_getElem? (i := 15) rfl, rfl, takes_of_funct7 0b0000001#7 0b101#3 opcodeOp (by decide) (by simp [encode])⟩

theorem rem (rd rs1 rs2 : RegIdx) : Statement (.rem rd rs1 rs2) :=
  fun _ => ⟨⟨"REM", 0x02006033#32, 0xFE00707F#32⟩, List.mem_of_getElem? (i := 16) rfl, rfl, takes_of_funct7 0b0000001#7 0b110#3 opcodeOp (by decide) (by simp [encode])⟩

theorem remu (rd rs1 rs2 : RegIdx) : Statement (.remu rd rs1 rs2) :=
  fun _ => ⟨⟨"REMU", 0x02007033#32, 0xFE00707F#32⟩, List.mem_of_getElem? (i := 17) rfl, rfl, takes_of_funct7 0b0000001#7 0b111#3 opcodeOp (by decide) (by simp [encode])⟩

theorem opOther (funct7 : BitVec 7) (funct3 : BitVec 3) (rd rs1 rs2 : RegIdx) : Statement (.opOther funct7 funct3 rd rs1 rs2) :=
  fun _ => ⟨⟨"OP__any_other_funct3_funct7", 0x00000033#32, 0x0000007F#32⟩, List.mem_of_getElem? (i := 18) rfl, rfl, takes_of_opcode opcodeOp (by decide) (by simp [encode])⟩

theorem addi (rd rs1 : RegIdx) (imm : Word) : Statement (.addi rd rs1 imm) :=
  fun _ => ⟨⟨"ADDI", 0x00000013#32, 0x0000707F#32⟩, List.mem_of_getElem? (i := 19) rfl, rfl, takes_of_funct3 0b000#3 opcodeOpImm (by decide) (by simp [encode])⟩

theorem slti (rd rs1 : RegIdx) (imm : Word) : Statement (.slti rd rs1 imm) :=
  fun _ => ⟨⟨"SLTI", 0x00002013#32, 0x0000707F#32⟩, List.mem_of_getElem? (i := 20) rfl, rfl, takes_of_funct3 0b010#3 opcodeOpImm (by decide) (by simp [encode])⟩

theorem sltiu (rd rs1 : RegIdx) (imm : Word) : Statement (.sltiu rd rs1 imm) :=
  fun _ => ⟨⟨"SLTIU", 0x00003013#32, 0x0000707F#32⟩, List.mem_of_getElem? (i := 21) rfl, rfl, takes_of_funct3 0b011#3 opcodeOpImm (by decide) (by simp [encode])⟩

theorem xori (rd rs1 : RegIdx) (imm : Word) : Statement (.xori rd rs1 imm) :=
  fun _ => ⟨⟨"XORI", 0x00004013#32, 0x0000707F#32⟩, List.mem_of_getElem? (i := 22) rfl, rfl, takes_of_funct3 0b100#3 opcodeOpImm (by decide) (by simp [encode])⟩

theorem ori (rd rs1 : RegIdx) (imm : Word) : Statement (.ori rd rs1 imm) :=
  fun _ => ⟨⟨"ORI", 0x00006013#32, 0x0000707F#32⟩, List.mem_of_getElem? (i := 23) rfl, rfl, takes_of_funct3 0b110#3 opcodeOpImm (by decide) (by simp [encode])⟩

theorem andi (rd rs1 : RegIdx) (imm : Word) : Statement (.andi rd rs1 imm) :=
  fun _ => ⟨⟨"ANDI", 0x00007013#32, 0x0000707F#32⟩, List.mem_of_getElem? (i := 24) rfl, rfl, takes_of_funct3 0b111#3 opcodeOpImm (by decide) (by simp [encode])⟩

theorem slli (rd rs1 : RegIdx) (imm : Word) : Statement (.slli rd rs1 imm) :=
  fun h => ⟨⟨"SLLI", 0x00001013#32, 0xFE00707F#32⟩, List.mem_of_getElem? (i := 25) rfl, rfl, takes_of_funct7 0b0000000#7 0b001#3 opcodeOpImm (by decide) (by simp [Instr.wf, fitsShift] at h; simp [encode, funct7Of_encodeI, h.2])⟩

theorem srli (rd rs1 : RegIdx) (imm : Word) : Statement (.srli rd rs1 imm) :=
  fun h => ⟨⟨"SRLI", 0x00005013#32, 0xFE00707F#32⟩, List.mem_of_getElem? (i := 26) rfl, rfl, takes_of_funct7 0b0000000#7 0b101#3 opcodeOpImm (by decide) (by simp [Instr.wf, fitsShift] at h; simp [encode, funct7Of_encodeI, h.2])⟩

theorem srai (rd rs1 : RegIdx) (imm : Word) : Statement (.srai rd rs1 imm) :=
  fun h => ⟨⟨"SRAI", 0x40005013#32, 0xFE00707F#32⟩, List.mem_of_getElem? (i := 27) rfl, rfl, takes_of_funct7 0b0100000#7 0b101#3 opcodeOpImm (by decide) (by simp [Instr.wf, fitsShift] at h; simp [encode, funct7Of_encodeI, h.2])⟩

theorem opImmOther (funct3 : BitVec 3) (rd rs1 : RegIdx) (imm : Word) : Statement (.opImmOther funct3 rd rs1 imm) :=
  fun _ => ⟨⟨"OP-IMM__any_other_funct3_imm_11_5", 0x00000013#32, 0x0000007F#32⟩, List.mem_of_getElem? (i := 28) rfl, rfl, takes_of_opcode opcodeOpImm (by decide) (by simp [encode])⟩

theorem lui (rd : RegIdx) (imm : Word) : Statement (.lui rd imm) :=
  fun _ => ⟨⟨"LUI", 0x00000037#32, 0x0000007F#32⟩, List.mem_of_getElem? (i := 29) rfl, rfl, takes_of_opcode opcodeLui (by decide) (by simp [encode])⟩

theorem auipc (rd : RegIdx) (imm : Word) : Statement (.auipc rd imm) :=
  fun _ => ⟨⟨"AUIPC", 0x00000017#32, 0x0000007F#32⟩, List.mem_of_getElem? (i := 30) rfl, rfl, takes_of_opcode opcodeAuipc (by decide) (by simp [encode])⟩

theorem lb (rd rs1 : RegIdx) (imm : Word) : Statement (.lb rd rs1 imm) :=
  fun _ => ⟨⟨"LB", 0x00000003#32, 0x0000707F#32⟩, List.mem_of_getElem? (i := 31) rfl, rfl, takes_of_funct3 0b000#3 opcodeLoad (by decide) (by simp [encode])⟩

theorem lh (rd rs1 : RegIdx) (imm : Word) : Statement (.lh rd rs1 imm) :=
  fun _ => ⟨⟨"LH", 0x00001003#32, 0x0000707F#32⟩, List.mem_of_getElem? (i := 32) rfl, rfl, takes_of_funct3 0b001#3 opcodeLoad (by decide) (by simp [encode])⟩

theorem lw (rd rs1 : RegIdx) (imm : Word) : Statement (.lw rd rs1 imm) :=
  fun _ => ⟨⟨"LW", 0x00002003#32, 0x0000707F#32⟩, List.mem_of_getElem? (i := 33) rfl, rfl, takes_of_funct3 0b010#3 opcodeLoad (by decide) (by simp [encode])⟩

theorem lbu (rd rs1 : RegIdx) (imm : Word) : Statement (.lbu rd rs1 imm) :=
  fun _ => ⟨⟨"LBU", 0x00004003#32, 0x0000707F#32⟩, List.mem_of_getElem? (i := 34) rfl, rfl, takes_of_funct3 0b100#3 opcodeLoad (by decide) (by simp [encode])⟩

theorem lhu (rd rs1 : RegIdx) (imm : Word) : Statement (.lhu rd rs1 imm) :=
  fun _ => ⟨⟨"LHU", 0x00005003#32, 0x0000707F#32⟩, List.mem_of_getElem? (i := 35) rfl, rfl, takes_of_funct3 0b101#3 opcodeLoad (by decide) (by simp [encode])⟩

theorem loadReserved (funct3 : BitVec 3) (rd rs1 : RegIdx) (imm : Word) : Statement (.loadReserved funct3 rd rs1 imm) :=
  fun _ => ⟨⟨"LOAD__reserved_funct3_011__110__111", 0x00000003#32, 0x0000007F#32⟩, List.mem_of_getElem? (i := 36) rfl, rfl, takes_of_opcode opcodeLoad (by decide) (by simp [encode])⟩

theorem sb (rs1 rs2 : RegIdx) (imm : Word) : Statement (.sb rs1 rs2 imm) :=
  fun _ => ⟨⟨"SB", 0x00000023#32, 0x0000707F#32⟩, List.mem_of_getElem? (i := 37) rfl, rfl, takes_of_funct3 0b000#3 opcodeStore (by decide) (by simp [encode])⟩

theorem sh (rs1 rs2 : RegIdx) (imm : Word) : Statement (.sh rs1 rs2 imm) :=
  fun _ => ⟨⟨"SH", 0x00001023#32, 0x0000707F#32⟩, List.mem_of_getElem? (i := 38) rfl, rfl, takes_of_funct3 0b001#3 opcodeStore (by decide) (by simp [encode])⟩

theorem sw (rs1 rs2 : RegIdx) (imm : Word) : Statement (.sw rs1 rs2 imm) :=
  fun _ => ⟨⟨"SW", 0x00002023#32, 0x0000707F#32⟩, List.mem_of_getElem? (i := 39) rfl, rfl, takes_of_funct3 0b010#3 opcodeStore (by decide) (by simp [encode])⟩

theorem storeReserved (funct3 : BitVec 3) (rs1 rs2 : RegIdx) (imm : Word) : Statement (.storeReserved funct3 rs1 rs2 imm) :=
  fun _ => ⟨⟨"STORE__reserved_funct3_011_to_111", 0x00000023#32, 0x0000007F#32⟩, List.mem_of_getElem? (i := 40) rfl, rfl, takes_of_opcode opcodeStore (by decide) (by simp [encode])⟩

theorem beq (rs1 rs2 : RegIdx) (imm : Word) : Statement (.beq rs1 rs2 imm) :=
  fun _ => ⟨⟨"BEQ", 0x00000063#32, 0x0000707F#32⟩, List.mem_of_getElem? (i := 41) rfl, rfl, takes_of_funct3 0b000#3 opcodeBranch (by decide) (by simp [encode])⟩

theorem bne (rs1 rs2 : RegIdx) (imm : Word) : Statement (.bne rs1 rs2 imm) :=
  fun _ => ⟨⟨"BNE", 0x00001063#32, 0x0000707F#32⟩, List.mem_of_getElem? (i := 42) rfl, rfl, takes_of_funct3 0b001#3 opcodeBranch (by decide) (by simp [encode])⟩

theorem blt (rs1 rs2 : RegIdx) (imm : Word) : Statement (.blt rs1 rs2 imm) :=
  fun _ => ⟨⟨"BLT", 0x00004063#32, 0x0000707F#32⟩, List.mem_of_getElem? (i := 43) rfl, rfl, takes_of_funct3 0b100#3 opcodeBranch (by decide) (by simp [encode])⟩

theorem bge (rs1 rs2 : RegIdx) (imm : Word) : Statement (.bge rs1 rs2 imm) :=
  fun _ => ⟨⟨"BGE", 0x00005063#32, 0x0000707F#32⟩, List.mem_of_getElem? (i := 44) rfl, rfl, takes_of_funct3 0b101#3 opcodeBranch (by decide) (by simp [encode])⟩

theorem bltu (rs1 rs2 : RegIdx) (imm : Word) : Statement (.bltu rs1 rs2 imm) :=
  fun _ => ⟨⟨"BLTU", 0x00006063#32, 0x0000707F#32⟩, List.mem_of_getElem? (i := 45) rfl, rfl, takes_of_funct3 0b110#3 opcodeBranch (by decide) (by simp [encode])⟩

theorem bgeu (rs1 rs2 : RegIdx) (imm : Word) : Statement (.bgeu rs1 rs2 imm) :=
  fun _ => ⟨⟨"BGEU", 0x00007063#32, 0x0000707F#32⟩, List.mem_of_getElem? (i := 46) rfl, rfl, takes_of_funct3 0b111#3 opcodeBranch (by decide) (by simp [encode])⟩

theorem branchReserved (funct3 : BitVec 3) (rs1 rs2 : RegIdx) (imm : Word) : Statement (.branchReserved funct3 rs1 rs2 imm) :=
  fun _ => ⟨⟨"BRANCH__reserved_funct3_010__011", 0x00000063#32, 0x0000007F#32⟩, List.mem_of_getElem? (i := 47) rfl, rfl, takes_of_opcode opcodeBranch (by decide) (by simp [encode])⟩

theorem jal (rd : RegIdx) (imm : Word) : Statement (.jal rd imm) :=
  fun _ => ⟨⟨"JAL", 0x0000006F#32, 0x0000007F#32⟩, List.mem_of_getElem? (i := 48) rfl, rfl, takes_of_opcode opcodeJal (by decide) (by simp [encode])⟩

theorem jalr (rd rs1 : RegIdx) (imm : Word) : Statement (.jalr rd rs1 imm) :=
  fun _ => ⟨⟨"JALR", 0x00000067#32, 0x0000707F#32⟩, List.mem_of_getElem? (i := 49) rfl, rfl, takes_of_funct3 0b000#3 opcodeJalr (by decide) (by simp [encode])⟩

theorem jalrReserved (funct3 : BitVec 3) (rd rs1 : RegIdx) (imm : Word) : Statement (.jalrReserved funct3 rd rs1 imm) :=
  fun _ => ⟨⟨"JALR-class__reserved_funct3_001_to_111", 0x00000067#32, 0x0000007F#32⟩, List.mem_of_getElem? (i := 50) rfl, rfl, takes_of_opcode opcodeJalr (by decide) (by simp [encode])⟩

theorem ecall : Statement .ecall :=
  fun _ => ⟨⟨"ECALL", 0x00000073#32, 0xFFFFFFFF#32⟩, List.mem_of_getElem? (i := 51) rfl, rfl, by decide⟩

theorem ebreak : Statement .ebreak :=
  fun _ => ⟨⟨"EBREAK", 0x00100073#32, 0xFFFFFFFF#32⟩, List.mem_of_getElem? (i := 52) rfl, rfl, by decide⟩

theorem csrrw (w : Word) : Statement (.csrrw w) :=
  fun h => ⟨⟨"CSRRW", 0x00001073#32, 0x0000707F#32⟩, List.mem_of_getElem? (i := 53) rfl, rfl, takes_of_funct3 0b001#3 opcodeSystem (by decide) (by simp [Instr.wf, isSystemWord] at h; exact ⟨h.2, h.1⟩)⟩

theorem csrrs (w : Word) : Statement (.csrrs w) :=
  fun h => ⟨⟨"CSRRS", 0x00002073#32, 0x0000707F#32⟩, List.mem_of_getElem? (i := 54) rfl, rfl, takes_of_funct3 0b010#3 opcodeSystem (by decide) (by simp [Instr.wf, isSystemWord] at h; exact ⟨h.2, h.1⟩)⟩

theorem csrrc (w : Word) : Statement (.csrrc w) :=
  fun h => ⟨⟨"CSRRC", 0x00003073#32, 0x0000707F#32⟩, List.mem_of_getElem? (i := 55) rfl, rfl, takes_of_funct3 0b011#3 opcodeSystem (by decide) (by simp [Instr.wf, isSystemWord] at h; exact ⟨h.2, h.1⟩)⟩

theorem csrrwi (w : Word) : Statement (.csrrwi w) :=
  fun h => ⟨⟨"CSRRWI", 0x00005073#32, 0x0000707F#32⟩, List.mem_of_getElem? (i := 56) rfl, rfl, takes_of_funct3 0b101#3 opcodeSystem (by decide) (by simp [Instr.wf, isSystemWord] at h; exact ⟨h.2, h.1⟩)⟩

theorem csrrsi (w : Word) : Statement (.csrrsi w) :=
  fun h => ⟨⟨"CSRRSI", 0x00006073#32, 0x0000707F#32⟩, List.mem_of_getElem? (i := 57) rfl, rfl, takes_of_funct3 0b110#3 opcodeSystem (by decide) (by simp [Instr.wf, isSystemWord] at h; exact ⟨h.2, h.1⟩)⟩

theorem csrrci (w : Word) : Statement (.csrrci w) :=
  fun h => ⟨⟨"CSRRCI", 0x00007073#32, 0x0000707F#32⟩, List.mem_of_getElem? (i := 58) rfl, rfl, takes_of_funct3 0b111#3 opcodeSystem (by decide) (by simp [Instr.wf, isSystemWord] at h; exact ⟨h.2, h.1⟩)⟩

theorem systemOther (w : Word) : Statement (.systemOther w) :=
  fun h => ⟨⟨"SYSTEM__CSR_instructions_and_any_other_word", 0x00000073#32, 0x0000007F#32⟩, List.mem_of_getElem? (i := 59) rfl, rfl, takes_of_opcode opcodeSystem (by decide) (by simp [Instr.wf, isSystemWord] at h; exact h.1.elim (·.1) (·.1))⟩

theorem fence (rd rs1 : RegIdx) (imm : Word) : Statement (.fence rd rs1 imm) :=
  fun _ => ⟨⟨"FENCE", 0x0000000F#32, 0x0000707F#32⟩, List.mem_of_getElem? (i := 60) rfl, rfl, takes_of_funct3 0b000#3 opcodeMiscMem (by decide) (by simp [encode])⟩

theorem fenceI (rd rs1 : RegIdx) (imm : Word) : Statement (.fenceI rd rs1 imm) :=
  fun _ => ⟨⟨"FENCE.I", 0x0000100F#32, 0x0000707F#32⟩, List.mem_of_getElem? (i := 61) rfl, rfl, takes_of_funct3 0b001#3 opcodeMiscMem (by decide) (by simp [encode])⟩

theorem miscMemOther (funct3 : BitVec 3) (rd rs1 : RegIdx) (imm : Word) : Statement (.miscMemOther funct3 rd rs1 imm) :=
  fun _ => ⟨⟨"MISC-MEM__any_other_funct3", 0x0000000F#32, 0x0000007F#32⟩, List.mem_of_getElem? (i := 62) rfl, rfl, takes_of_opcode opcodeMiscMem (by decide) (by simp [encode])⟩

theorem unrecognized (w : Word) : Statement (.unrecognized w) :=
  fun _ => ⟨⟨"UNRECOGNIZED__every_other_opcode__117_values", 0x00000000#32, 0x00000000#32⟩, List.mem_of_getElem? (i := 63) rfl, rfl, by simp [TableRow.takes]⟩

end Sys2Proof.Laws.RowTakes
end

