-- ==== Sys2Proof/Machine/Flags.lean ====
section
/-! DEFINITION. Flag computations of RVEMU-CORE: there are none. "RVEMU-CORE has no status flags and no condition codes. ADD writes no
flag." (10_state.md R28); overflow is neither detected nor reported (41_alu_register.md R142). What an operation reports beside its
result is a status; this file holds the numbers the spec gives the statuses (60_exceptions.md R200, D21). -/

namespace Sys2Proof.Machine

/-- The numeric code of a status (R200). -/
def Status.code : Status → Nat
  | .ok => 0
  | .unrecognizedOpcode _ => 1
  | .unimplementedInstruction _ => 2
  | .memoryFault _ => 3
  | .invalidRegister _ => 4

end Sys2Proof.Machine
end

