-- ==== Sys2Proof/Tests/Slice0.lean ====
section
/-! SUPPORT. The model's own tests. Expected results are the worked examples and derived vectors of spec/95_test_vectors.md (W, M, HP, S
and the tables of its sections 2.2 to 2.6), or words written out by hand from the bit tables of spec/30_encoding.md; then one witness
for the hypotheses of each statement that has some. -/

namespace Sys2Proof.Tests

open Sys2Proof Sys2Proof.Machine

/-! ## Helpers -/

/-- A Running state: `ws` at `start` under a capacity, the listed registers written, the pc at `start`. -/
def setUp (capacity : Nat) (start : Word) (rs : List (RegIdx × Word)) (ws : List Word) : State :=
  let c := (State.constructed { memCapacity := capacity, startAddress := start }).init
  let m := { c with mem := c.mem.writeBytes start.toNat (ws.flatMap wordBytes) }
  rs.foldl (fun s p => s.writeReg p.1 p.2) m

/-- One word at 12 in the default configuration, x5 = 9 (section 2.6). -/
def one (w : Word) : State := setUp 512 12#32 [(5, 9)] [w]

/-- The next state, where there is one. -/
def nextOf : Host.Outcome State Fault Refusal → Option State
  | .next s => some s
  | _ => none

/-- The refusal, where there is one. -/
def refusalOf : Host.Outcome State Fault Refusal → Option Refusal
  | .refused e => some e
  | _ => none

/-- Status and value of a transaction. -/
def reply (t : Transaction) (s : State) : Option (Status × Option Value) :=
  match transact t s with
  | .next r => some (r.state.status, r.value)
  | _ => none

/-- The state a transaction leaves (the old one where it is refused). -/
def afterwards (t : Transaction) (s : State) : State :=
  match transact t s with
  | .next r => r.state
  | _ => s

/-- Status, pc and one register after a step. -/
def stepShows (s : State) (r : RegIdx) : Option (Status × Word × Word) :=
  (nextOf (step s)).map fun t => (t.status, t.pc, t.readReg r)

/-- The step of `one w` reports the word as unimplemented, moves the pc from 12 to 16 and does nothing else. -/
def reports (w : Word) : Bool :=
  nextOf (step (one w)) == some { one w with pc := 16#32, status := .unimplementedInstruction w }

/-- The same for a word of no class. -/
def rejects (w : Word) : Bool :=
  nextOf (step (one w)) == some { one w with pc := 16#32, status := .unrecognizedOpcode w }

/-! ## Well-formedness: an ill-formed term for each check, which the check refuses -/

theorem test_wf_refuses_imm12_too_large : (Instr.addi 1 2 2048#32).wf = false ∧ (Instr.lw 1 2 0xFFFFF7FF#32).wf = false := by decide
theorem test_wf_refuses_storeImm_too_large : (Instr.sw 1 2 2048#32).wf = false := by decide
theorem test_wf_refuses_branchImm : (Instr.beq 1 2 3#32).wf = false ∧ (Instr.beq 1 2 4096#32).wf = false := by decide
theorem test_wf_refuses_upperImm : (Instr.lui 1 0x00001001#32).wf = false := by decide
theorem test_wf_refuses_jumpImm : (Instr.jal 1 1#32).wf = false ∧ (Instr.jal 1 0x00100000#32).wf = false := by decide
theorem test_wf_refuses_shifts :
    (Instr.slli 1 2 32#32).wf = false ∧ (Instr.srli 1 2 0x00000405#32).wf = false ∧ (Instr.srai 1 2 5#32).wf = false := by decide
theorem test_wf_refuses_named_rows_as_other :
    (Instr.opOther 0b0000001#7 0b100#3 1 2 3).wf = false ∧ (Instr.opOther 0b0100000#7 0b101#3 1 2 3).wf = false ∧
    (Instr.opImmOther 0b000#3 1 2 5#32).wf = false ∧ (Instr.opImmOther 0b101#3 1 2 0x00000405#32).wf = false := by decide
theorem test_wf_refuses_named_rows_as_reserved :
    (Instr.loadReserved 0b100#3 1 2 0#32).wf = false ∧ (Instr.storeReserved 0b010#3 1 2 0#32).wf = false ∧
    (Instr.branchReserved 0b111#3 1 2 0#32).wf = false ∧ (Instr.jalrReserved 0b000#3 1 2 0#32).wf = false ∧
    (Instr.miscMemOther 0b001#3 1 2 0#32).wf = false := by decide
theorem test_wf_refuses_system_words :
    (Instr.csrrw 0x00002073#32).wf = false ∧ (Instr.csrrci 0x00007033#32).wf = false ∧
    (Instr.systemOther 0x00000073#32).wf = false ∧ (Instr.systemOther 0x00001073#32).wf = false := by decide
theorem test_wf_refuses_recognized_word : (Instr.unrecognized 0x00000033#32).wf = false := by decide

/-! ## Decoding: for every constructor a word written out from the bit tables (R81 to R86) and the opcode table (R109) -/

theorem test_decode_op_base :
    decode 0b0000000_10100_10011_000_10010_0110011#32 = .add 18 19 20 ∧ decode 0b0100000_00110_00101_000_00100_0110011#32 = .sub 4 5 6 ∧
    decode 0b0000000_00011_00010_001_00001_0110011#32 = .sll 1 2 3 ∧ decode 0b0000000_00011_00010_010_00001_0110011#32 = .slt 1 2 3 ∧
    decode 0b0000000_00011_00010_011_00001_0110011#32 = .sltu 1 2 3 ∧ decode 0b0000000_00011_00010_100_00001_0110011#32 = .xor 1 2 3 ∧
    decode 0b0000000_00011_00010_101_00001_0110011#32 = .srl 1 2 3 ∧ decode 0b0100000_00011_00010_101_00001_0110011#32 = .sra 1 2 3 ∧
    decode 0b0000000_00011_00010_110_00001_0110011#32 = .or 1 2 3 ∧ decode 0b0000000_00011_00010_111_00001_0110011#32 = .and 1 2 3 := by
  decide

theorem test_decode_op_muldiv_and_other :
    decode 0b0000001_00011_00010_000_00001_0110011#32 = .mul 1 2 3 ∧ decode 0b0000001_00011_00010_001_00001_0110011#32 = .mulh 1 2 3 ∧
    decode 0b0000001_00011_00010_010_00001_0110011#32 = .mulhsu 1 2 3 ∧ decode 0b0000001_00011_00010_011_00001_0110011#32 = .mulhu 1 2 3 ∧
    decode 0b0000001_00011_00010_100_00001_0110011#32 = .div 1 2 3 ∧ decode 0b0000001_00011_00010_101_00001_0110011#32 = .divu 1 2 3 ∧
    decode 0b0000001_00011_00010_110_00001_0110011#32 = .rem 1 2 3 ∧ decode 0b0000001_00011_00010_111_00001_0110011#32 = .remu 1 2 3 ∧
    decode 0b0100000_00011_00010_001_00001_0110011#32 = .opOther 32 1 1 2 3 ∧ decode 0xFFFFFFB3#32 = .opOther 127 7 31 31 31 := by
  decide

theorem test_decode_op_imm :
    decode 0b000000100101_10101_000_10100_0010011#32 = .addi 20 21 0x25#32 ∧ decode 0b111111111111_00010_010_00001_0010011#32 = .slti 1 2 (-1#32) ∧
    decode 0b000000000101_00010_011_00001_0010011#32 = .sltiu 1 2 5#32 ∧ decode 0b000000000101_00010_100_00001_0010011#32 = .xori 1 2 5#32 ∧
    decode 0b000000000101_00010_110_00001_0010011#32 = .ori 1 2 5#32 ∧ decode 0b000000000101_00010_111_00001_0010011#32 = .andi 1 2 5#32 ∧
    decode 0b0000000_11111_00010_001_00001_0010011#32 = .slli 1 2 31#32 ∧ decode 0b0000000_11111_00010_101_00001_0010011#32 = .srli 1 2 31#32 ∧
    decode 0b0100000_11111_00010_101_00001_0010011#32 = .srai 1 2 0x41F#32 ∧
    decode 0b0100000_11111_00010_001_00001_0010011#32 = .opImmOther 1 1 2 0x41F#32 := by
  decide

theorem test_decode_upper :
    decode 0b00010010001101000101_00101_0110111#32 = .lui 5 0x12345000#32 ∧ decode 0b00000000000000000001_01010_0010111#32 = .auipc 10 0x1000#32 := by
  decide

theorem test_decode_load :
    decode 0b000000001000_00010_000_00101_0000011#32 = .lb 5 2 8#32 ∧ decode 0b000000001000_00010_001_00101_0000011#32 = .lh 5 2 8#32 ∧
    decode 0b000000001000_00010_010_00101_0000011#32 = .lw 5 2 8#32 ∧ decode 0b000000001000_00010_100_00101_0000011#32 = .lbu 5 2 8#32 ∧
    decode 0b000000001000_00010_101_00101_0000011#32 = .lhu 5 2 8#32 ∧
    decode 0b111111111111_00010_011_00101_0000011#32 = .loadReserved 3 5 2 (-1#32) := by
  decide

theorem test_decode_store :
    decode 0b0000000_10011_10010_000_00101_0100011#32 = .sb 18 19 5#32 ∧ decode 0b0000000_10011_10010_001_00101_0100011#32 = .sh 18 19 5#32 ∧
    decode 0b0000001_10011_10010_010_00101_0100011#32 = .sw 18 19 37#32 ∧
    decode 0b1111111_10011_10010_111_11111_0100011#32 = .storeReserved 7 18 19 (-1#32) := by
  decide

theorem test_decode_branch :
    decode 0b0_000001_00110_00101_000_0000_0_1100011#32 = .beq 5 6 32#32 ∧ decode 0b0_000000_00110_00101_001_1000_0_1100011#32 = .bne 5 6 16#32 ∧
    decode 0b0_000000_00110_00101_100_0000_1_1100011#32 = .blt 5 6 2048#32 ∧ decode 0b1_111111_00110_00101_101_1110_1_1100011#32 = .bge 5 6 (-4#32) ∧
    decode 0b1_000000_00110_00101_110_0000_0_1100011#32 = .bltu 5 6 (-4096#32) ∧
    decode 0b0_111111_00110_00101_111_1111_1_1100011#32 = .bgeu 5 6 4094#32 ∧
    decode 0b0_000000_00110_00101_010_0000_0_1100011#32 = .branchReserved 2 5 6 0#32 := by
  decide

theorem test_decode_jumps :
    decode 0b0_0000000110_0_00000000_00001_1101111#32 = .jal 1 12#32 ∧ decode 0b1_1111111100_1_11111111_00001_1101111#32 = .jal 1 (-8#32) ∧
    decode 0b000000000000_00001_000_00000_1100111#32 = .jalr 0 1 0#32 ∧ decode 0b000000000100_00001_101_00000_1100111#32 = .jalrReserved 5 0 1 4#32 := by
  decide

theorem test_decode_system_and_fence :
    decode 0b000000000000_00000_000_00000_1110011#32 = .ecall ∧ decode 0b000000000001_00000_000_00000_1110011#32 = .ebreak ∧
    decode 0x30011073#32 = .csrrw 0x30011073#32 ∧ decode 0x30012073#32 = .csrrs 0x30012073#32 ∧ decode 0x30013073#32 = .csrrc 0x30013073#32 ∧
    decode 0x30015073#32 = .csrrwi 0x30015073#32 ∧ decode 0x30016073#32 = .csrrsi 0x30016073#32 ∧ decode 0x30017073#32 = .csrrci 0x30017073#32 ∧
    decode 0x00200073#32 = .systemOther 0x00200073#32 ∧ decode 0b000011111111_00000_000_00000_0001111#32 = .fence 0 0 0xFF#32 ∧
    decode 0b000000000000_00000_001_00000_0001111#32 = .fenceI 0 0 0#32 ∧ decode 0b000000000000_00000_010_00000_0001111#32 = .miscMemOther 2 0 0 0#32 := by
  decide

/-- The unrecognized words of section 2.6. -/
theorem test_decode_unrecognized :
    decode 0x00000000#32 = .unrecognized 0x00000000#32 ∧ decode 0xFFFFFFFF#32 = .unrecognized 0xFFFFFFFF#32 ∧
    decode 0x0000000B#32 = .unrecognized 0x0000000B#32 ∧ decode 0x0000002F#32 = .unrecognized 0x0000002F#32 ∧
    decode 0x00000001#32 = .unrecognized 0x00000001#32 ∧ decode 0x0000003B#32 = .unrecognized 0x0000003B#32 ∧
    decode 0x00000053#32 = .unrecognized 0x00000053#32 := by decide

/-- Section 2.2: I- and S-type immediates. -/
theorem test_immediates_IS :
    immI 0x80000013#32 = -2048#32 ∧ immI 0x7FF00013#32 = 2047#32 ∧ immI 0xFFF00013#32 = -1#32 ∧ immS 0xFE000FA3#32 = -1#32 ∧
    immS 0x80000023#32 = -2048#32 ∧ immS 0x7E000FA3#32 = 2047#32 := by decide

/-- Section 2.2: B-type immediates. -/
theorem test_immediates_B :
    immB 0x00000063#32 = 0#32 ∧ immB 0x00000863#32 = 16#32 ∧ immB 0x000000E3#32 = 2048#32 ∧ immB 0x00000F63#32 = 30#32 ∧
    immB 0xFE000EE3#32 = -4#32 ∧ immB 0x80000063#32 = -4096#32 ∧ immB 0x7E000FE3#32 = 4094#32 := by decide

/-- Section 2.2: U- and J-type immediates. -/
theorem test_immediates_UJ :
    immU 0xFFFFF037#32 = 0xFFFFF000#32 ∧ immU 0x00001037#32 = 0x00001000#32 ∧ immJ 0x0010006F#32 = 2048#32 ∧ immJ 0x000010EF#32 = 4096#32 ∧
    immJ 0x800000EF#32 = -1048576#32 ∧ immJ 0x7FFFF0EF#32 = 1048574#32 := by decide

/-- Section 2.1: what the classifier answers for a word of each row of the grid. -/
theorem test_classifier_tags :
    ([0x03, 0x0F, 0x13, 0x17, 0x23, 0x33, 0x37, 0x63, 0x67, 0x6F, 0x73, 0x7F, 0x43, 0x2F].map fun n => (classify (BitVec.ofNat 32 n)).tag) =
      [.i, .i, .i, .u, .s, .r, .u, .b, .i, .j, .syscall, .unrecognized, .unrecognized, .unrecognized] := by decide

/-- R109: the table has 64 rows, and the first that takes a word wins. -/
theorem test_table_rows : opcodeTable.length = 64 ∧ (firstRow 0x00000033#32).map TableRow.mnemonic = some "ADD" ∧
    (firstRow 0x40001033#32).map TableRow.mnemonic = some "OP__any_other_funct3_funct7" := by decide

/-- The first byte in memory is the low byte of the word (R53, R74; program P4's bytes). -/
theorem test_decode_bytes : decodeBytes [0x33#8, 0x85#8, 0x20#8, 0x00#8] = .ok (.add 10 1 2, []) ∧
    decodeBytes [0x33#8, 0x85#8, 0x20#8] = .error .truncated ∧ decodeTableWord 32 0x01498933 = some (.add 18 19 20) := by decide

/-! ## ADD -/

/-- W8: x7 = 3, x5 = 4, `add x10, x7, x5`. -/
theorem test_add_example : stepShows (setUp 512 12#32 [(7, 3), (5, 4)] [0x00538533#32]) 10 = some (.ok, 16#32, 7#32) := by decide

/-- Section 2.3: wrap, signed overflow and the generic row. -/
theorem test_add_sums : aluAdd 0xFFFFFFFF#32 1#32 = 0#32 ∧ aluAdd 0x7FFFFFFF#32 1#32 = 0x80000000#32 ∧
    aluAdd 0x80000000#32 0x80000000#32 = 0#32 ∧ aluAdd 0x12345678#32 0x9ABCDEF0#32 = 0xACF13568#32 := by decide

/-- Section 2.3 and P2: rd = 0 discards; `add x7, x7, x7` reads before it writes. -/
theorem test_add_x0_and_same_register :
    stepShows (setUp 512 12#32 [(1, 0xFFFFFFFF#32)] [0x00108033#32]) 0 = some (.ok, 16#32, 0#32) ∧
    stepShows (setUp 512 12#32 [(7, 0x80000000#32)] [0x007383B3#32]) 7 = some (.ok, 16#32, 0#32) := by decide

/-- P1 step 2: `add x4, x2, x3` writes x4 and leaves the pc to advance by 4 (R24). -/
theorem test_add_x4_is_not_the_pc :
    stepShows (setUp 512 16#32 [(2, 1#32), (3, 2#32)] [0x00310233#32]) 4 = some (.ok, 20#32, 3#32) := by decide

/-! ## The other words (section 2.6) -/

theorem test_step_op_words : reports 0x40628233#32 = true ∧ reports 0x02000033#32 = true ∧ reports 0x00001033#32 = true := by decide
theorem test_step_op_imm_words : reports 0x025A8A13#32 = true ∧ reports 0x00000013#32 = true := by decide
theorem test_step_upper_words : reports 0x123452B7#32 = true ∧ reports 0x00001517#32 = true := by decide
theorem test_step_memory_words : reports 0x00812283#32 = true ∧ reports 0x013902A3#32 = true := by decide
theorem test_step_control_words : reports 0x02628063#32 = true ∧ reports 0x00C000EF#32 = true ∧ reports 0x00008067#32 = true := by decide
theorem test_step_system_words : reports 0x00000073#32 = true ∧ reports 0x00100073#32 = true ∧ reports 0x0FF0000F#32 = true := by decide
theorem test_step_unrecognized_words : rejects 0x00000000#32 = true ∧ rejects 0xFFFFFFFF#32 = true ∧ rejects 0x0000000B#32 = true := by decide

/-! ## The sequencer -/

/-- S1: a step before init is refused. -/
theorem test_step_before_init : refusalOf (step State.reset) = some .stepBeforeInit := by decide

/-- S2 and S3: the last word of memory, then off its end. -/
theorem test_step_off_the_end :
    stepShows (setUp 512 508#32 [] []) 0 = some (.unrecognizedOpcode 0#32, 0x200#32, 0#32) ∧
    stepShows (setUp 512 512#32 [] []) 0 = some (.memoryFault 0x200#32, 0x200#32, 0#32) := by decide

/-- S4: START_ADDRESS 510, where the word would pass the end. -/
theorem test_step_partly_out_of_memory : stepShows (setUp 512 510#32 [] []) 0 = some (.memoryFault 0x1FE#32, 0x1FE#32, 0#32) := by decide

/-- S5 and S6: the top of a memory of 2^32 bytes. -/
theorem test_step_wraps_at_the_top :
    stepShows (setUp (2 ^ 32) 0xFFFFFFFC#32 [] [0x000000B3#32]) 1 = some (.ok, 0#32, 0#32) ∧
    stepShows (setUp (2 ^ 32) 0xFFFFFFFD#32 [] []) 1 = some (.memoryFault 0xFFFFFFFD#32, 0xFFFFFFFD#32, 0#32) := by decide

/-- P4 step 1: an unaligned start address. -/
theorem test_step_unaligned : stepShows (setUp 64 1#32 [(1, 5#32), (2, 7#32)] [0x00208533#32]) 10 = some (.ok, 5#32, 12#32) := by decide

/-- HP5 to HP7: the pc before and after init, and x4. -/
theorem test_init : State.reset.pc = 0#32 ∧ State.reset.init.pc = 12#32 ∧ State.reset.init.readReg 4 = 0#32 ∧
    State.reset.init.init.pc = 12#32 := by decide

/-- A word placed by withFetchWord is what the next step runs, right after reset. -/
theorem test_withFetchWord : stepShows (State.reset.withFetchWord 32 0x00000533) 10 = some (.ok, 16#32, 0#32) ∧
    stepShows (State.reset.withFetchWord 32 0x00000073) 10 = some (.unimplementedInstruction 0x73#32, 16#32, 0#32) := by decide

/-! ## The host's ports (sections 2.4 and 2.5) -/

/-- M1, M2, M8. -/
theorem test_memRead32_bounds :
    reply (.memRead32 508#32) State.reset = some (.ok, some (.word 0#32)) ∧ reply (.memRead32 509#32) State.reset = some (.memoryFault 509#32, none) ∧
    reply (.memRead32 0xFFFFFFFE#32) State.reset = some (.memoryFault 0xFFFFFFFE#32, none) := by decide

/-- M3 and M4: a byte load is all or nothing. -/
theorem test_mapBytes_bounds :
    (afterwards (.mapBytes 510#32 [1, 2]) State.reset).mem = [(510, 1#8), (511, 2#8)] ∧
    afterwards (.mapBytes 511#32 [1, 2]) State.reset = { State.reset with status := .memoryFault 511#32 } := by decide

/-- The state of M5: two words at 0. -/
def twoWords : State := afterwards (.mapWords 0#32 [0x11223344#32, 0x55667788#32]) State.reset

/-- M5 to M7 (and W11). -/
theorem test_mapWords_little_endian :
    twoWords.mem.map Prod.snd = [0x44#8, 0x33#8, 0x22#8, 0x11#8, 0x88#8, 0x77#8, 0x66#8, 0x55#8] ∧
    reply (.memRead8 3#32) twoWords = some (.ok, some (.byte 0x11#8)) ∧ reply (.memRead32 1#32) twoWords = some (.ok, some (.word 0x88112233#32)) ∧
    reply (.memRead32 4#32) twoWords = some (.ok, some (.word 0x55667788#32)) := by decide

/-- M9 and M10: a capacity of 0; an empty load succeeds at any offset. -/
theorem test_capacity_zero :
    reply (.memRead8 0#32) (State.constructed { memCapacity := 0, startAddress := 12#32 }) = some (.memoryFault 0#32, none) ∧
    reply (.mapBytes 0#32 [1]) (State.constructed { memCapacity := 0, startAddress := 12#32 }) = some (.memoryFault 0#32, none) ∧
    reply (.mapBytes 600#32 []) (State.constructed { memCapacity := 0, startAddress := 12#32 }) = some (.ok, none) := by decide

/-- M11 to M13. -/
theorem test_mapWords_bounds :
    reply (.mapWords 500#32 [1, 2, 3]) State.reset = some (.ok, none) ∧ reply (.mapWords 501#32 [1, 2, 3]) State.reset = some (.memoryFault 501#32, none) ∧
    reply (.mapWords 497#32 [1, 2, 3, 4]) State.reset = some (.memoryFault 497#32, none) := by decide

/-- HP1 to HP4. -/
theorem test_register_port :
    reply (.regRead 32) State.reset = some (.invalidRegister 32, none) ∧ reply (.regWrite 32 1#32) State.reset = some (.invalidRegister 32, none) ∧
    reply (.regRead 0) (afterwards (.regWrite 0 5#32) State.reset) = some (.ok, some (.word 0#32)) ∧
    reply (.regRead 31) (afterwards (.regWrite 31 0xDEADBEEF#32) State.reset) = some (.ok, some (.word 0xDEADBEEF#32)) := by decide

/-- R8: what construction refuses. -/
theorem test_construct_refuses : refusalOf (construct (2 ^ 32 + 1) 0) = some .badConfiguration ∧
    refusalOf (construct 512 (2 ^ 32)) = some .badConfiguration ∧ (nextOf (construct (2 ^ 32) (2 ^ 32 - 1))).isSome = true := by decide

/-- The codes of R200's table. -/
theorem test_status_codes : Status.code .ok = 0 ∧ Status.code (.unrecognizedOpcode 0#32) = 1 ∧
    Status.code (.unimplementedInstruction 0x73#32) = 2 ∧ Status.code (.memoryFault 509#32) = 3 ∧ Status.code (.invalidRegister 32) = 4 := by decide

/-! ## Witnesses: for each statement with hypotheses, a state and operands that meet them together -/

theorem test_witness_DecodeOfEncodeIsTheInstruction :
    (Instr.add 31 31 31).wf = true ∧ (Instr.addi 1 2 (-2048#32)).wf = true ∧ (Instr.sw 1 2 2047#32).wf = true ∧ (Instr.beq 1 2 (-4096#32)).wf = true ∧
    (Instr.lui 1 0xFFFFF000#32).wf = true ∧ (Instr.jal 1 1048574#32).wf = true ∧ (Instr.opImmOther 1 1 2 (-1#32)).wf = true ∧
    (Instr.csrrw 0xFFF09073#32).wf = true ∧ (Instr.unrecognized 0xFFFFFFFF#32).wf = true := by decide

theorem test_witness_ClassifierReadsTheOpcodeOnly :
    opcodeOf 0x01498933#32 = opcodeOf 0x40628233#32 ∧ opcodeOf 0x01498933#32 = 0b0110011#7 ∧ opcodeOf 0x025A8A13#32 = 0b0010011#7 ∧
    ¬ Recognized 0x0000003B#32 := by decide

theorem test_witness_ElevenOpcodesAreRecognized :
    opcodeOf 0x01498933#32 ∈ [0b0110011#7] ∧
    opcodeOf 0x00000013#32 ∈ [0b0010011#7, 0b0000011#7, 0b1100111#7, 0b0001111#7] ∧
    opcodeOf 0x00812283#32 ∈ [0b0010011#7, 0b0000011#7, 0b1100111#7, 0b0001111#7] ∧
    opcodeOf 0x00008067#32 ∈ [0b0010011#7, 0b0000011#7, 0b1100111#7, 0b0001111#7] ∧
    opcodeOf 0x0FF0000F#32 ∈ [0b0010011#7, 0b0000011#7, 0b1100111#7, 0b0001111#7] ∧
    opcodeOf 0x013902A3#32 ∈ [0b0100011#7] ∧ opcodeOf 0x02628063#32 ∈ [0b1100011#7] ∧
    opcodeOf 0x123452B7#32 ∈ [0b0110111#7, 0b0010111#7] ∧ opcodeOf 0x00001517#32 ∈ [0b0110111#7, 0b0010111#7] ∧ opcodeOf 0x00C000EF#32 ∈ [0b1101111#7] ∧
    opcodeOf 0x00000073#32 ∈ [0b1110011#7] ∧
    opcodeOf 0x0000002F#32 ∉ [0b0110011#7, 0b0010011#7, 0b0000011#7, 0b1100111#7, 0b0001111#7, 0b0100011#7, 0b1100011#7, 0b0110111#7,
      0b0010111#7, 0b1101111#7, 0b1110011#7] := by decide

/-- For ConstructionResetsEveryState, MemoryIsZeroFilledAndKeepsItsSize, FirstStepFetchesAtStartAddress, ResetHasTheInvariant and
ConfigurationIsFixedAtConstruction: the smallest and the largest arguments, and two start addresses under one capacity. -/
theorem test_witness_construct :
    construct 0 0 = .next (State.constructed { memCapacity := 0, startAddress := 0#32 }) ∧
    construct (2 ^ 32) (2 ^ 32 - 1) = .next (State.constructed { memCapacity := 2 ^ 32, startAddress := 0xFFFFFFFF#32 }) ∧
    construct 512 0 = .next (State.constructed { memCapacity := 512, startAddress := 0#32 }) ∧
    construct 512 508 = .next (State.constructed { memCapacity := 512, startAddress := 508#32 }) := ⟨rfl, rfl, rfl, rfl⟩

theorem test_witness_ConstructionRefusesBadArguments :
    (2 ^ 32 ≤ 2 ^ 32 ∧ 2 ^ 32 - 1 < 2 ^ 32) ∧ ¬ (2 ^ 32 + 1 ≤ 2 ^ 32 ∧ 0 < 2 ^ 32) ∧ ¬ (0 ≤ 2 ^ 32 ∧ 2 ^ 32 < 2 ^ 32) := by decide

/-- For MemoryIsZeroFilledAndKeepsItsSize, ConfigurationIsFixedAtConstruction and EveryTransactionKeepsTheInvariant: a load on a state with the invariant. -/
theorem test_witness_transaction_on_invariant_state :
    State.reset.Inv ∧ transact (.mapWords 508#32 [0x00538533#32]) State.reset =
      .next { state := afterwards (.mapWords 508#32 [0x00538533#32]) State.reset, value := none } := ⟨by decide, rfl⟩

/-- For EveryTransactionKeepsTheInvariant: a step on a state with the invariant. -/
theorem test_witness_step_on_invariant_state :
    (one 0x00538533#32).Inv ∧ step (one 0x00538533#32) = .next ((one 0x00538533#32).writeReg 10 9#32 |>.retire .ok) := ⟨by decide, rfl⟩

theorem test_witness_FirstStepFetchesAtStartAddress :
    memRead32 (setUp 512 508#32 [] [0x00538533#32]).init 508#32 = .ok 0x00538533#32 ∧
    memRead32 (setUp 512 509#32 [] []).init 509#32 = .error (.memoryFault 509#32) := ⟨rfl, rfl⟩

theorem test_witness_InvalidRegisterComesFromTheRegisterPortOnly :
    transact (.regRead 32) State.reset = .next { state := { State.reset with status := .invalidRegister 32 }, value := none } ∧
    transact (.regWrite 4294967296 1#32) State.reset = .next { state := { State.reset with status := .invalidRegister 4294967296 }, value := none } :=
  ⟨rfl, rfl⟩

/-- For RegisterWriteThenRead: the clauses' boundary indices (0 and 31, the same and another). -/
theorem test_witness_RegisterWriteThenRead : (0 < 32 ∧ 31 < 32) ∧
    reply (.regRead 31) (afterwards (.regWrite 31 7#32) State.reset) = some (.ok, some (.word 7#32)) ∧
    reply (.regRead 31) (afterwards (.regWrite 0 7#32) State.reset) = some (.ok, some (.word 0#32)) := by decide

/-- For ReadPortsChangeNoState: each read transaction; the index bounds 0 and 31; a byte and a word read in and out of memory. -/
theorem test_witness_ReadPortsChangeNoState :
    transact (.regRead 5) (one 0#32) = .next { state := one 0#32, value := some (.word 9#32) } ∧
    transact .getPc (one 0#32) = .next { state := one 0#32, value := some (.word 12#32) } ∧
    transact (.memRead8 511#32) (one 0#32) = .next { state := one 0#32, value := some (.byte 0#8) } ∧
    transact (.memRead32 508#32) (one 0#32) = .next { state := one 0#32, value := some (.word 0#32) } ∧
    (0 < 32 ∧ 31 < 32) ∧ memRead8 twoWords 7#32 = .ok 0x55#8 ∧ memRead8 twoWords 512#32 = .error (.memoryFault 512#32) ∧
    memRead32 twoWords 4#32 = .ok 0x55667788#32 ∧ memRead32 twoWords 509#32 = .error (.memoryFault 509#32) :=
  ⟨rfl, rfl, rfl, rfl, by decide, rfl, rfl, rfl, rfl⟩

/-- For WordReadIsFourBytesLittleEndian and WordReadAgreesWithByteReads: the last word of memory and one byte further. -/
theorem test_witness_word_reads :
    (setUp 512 508#32 [] [0x11223344#32]).config.legal = true ∧ (508#32).toNat + 4 ≤ (setUp 512 508#32 [] [0x11223344#32]).config.memCapacity ∧
    (setUp 512 508#32 [] [0x11223344#32]).config.memCapacity < (509#32).toNat + 4 ∧
    memRead32 (setUp 512 508#32 [] [0x11223344#32]) 508#32 = .ok 0x11223344#32 := ⟨by decide, by decide, by decide, rfl⟩

theorem test_witness_ByteWriteThenRead :
    twoWords.mem.wf ∧ (511#32).toNat + 1 ≤ twoWords.config.memCapacity ∧ twoWords.config.memCapacity < (512#32).toNat + 1 := by decide

/-- For BulkLoadIsAllOrNothing, BulkLoadFrame and LoadedWordsReadBack: loads that just fit, and that do not, on a state with the invariant. -/
theorem test_witness_bulk_loads :
    twoWords.Inv ∧ mapBytes twoWords 510#32 [1#8, 2#8] = .ok { twoWords with mem := twoWords.mem.writeBytes 510 [1#8, 2#8] } ∧
    mapWords twoWords 508#32 [1#32] = .ok { twoWords with mem := twoWords.mem.writeBytes 508 [1#8, 0#8, 0#8, 0#8] } ∧
    mapBytes twoWords 511#32 [1#8, 2#8] = .error (.memoryFault 511#32) ∧ mapWords twoWords 509#32 [1#32] = .error (.memoryFault 509#32) :=
  ⟨by decide, rfl, rfl, rfl, rfl⟩

/-- For MemoryFaultChangesNothing: each of the five operations that answer it. -/
theorem test_witness_MemoryFaultChangesNothing :
    (afterwards .step (setUp 512 509#32 [] [])).status = .memoryFault 509#32 ∧ (afterwards (.mapBytes 512#32 [1#8]) twoWords).status = .memoryFault 512#32 ∧
    (afterwards (.mapWords 509#32 [1#32]) twoWords).status = .memoryFault 509#32 ∧ (afterwards (.memRead8 512#32) twoWords).status = .memoryFault 512#32 ∧
    (afterwards (.memRead32 509#32) twoWords).status = .memoryFault 509#32 := by decide

theorem test_witness_EqualReadsMeanEqualMemories :
    Memory.wf [(3, 1#8), (7, 2#8)] ∧ Memory.wf (Memory.writeBytes [] 3 [1#8, 0#8, 5#8, 0#8, 2#8] |>.write 5 0#8) ∧
    ∀ a : Nat, Memory.read [(3, 1#8), (7, 2#8)] a = (Memory.writeBytes [] 3 [1#8, 0#8, 5#8, 0#8, 2#8] |>.write 5 0#8).read a :=
  ⟨by decide, by decide, fun _ => rfl⟩

/-- For StepRunsTheDecodedInstruction, EveryFetchedStepAdvancesThePc, StatusFollowsPipelineOrder and AddWordsExecute: the last word of
memory, an ADD, in phase Running. -/
theorem test_witness_fetched_add :
    (setUp 512 508#32 [] [0x00538533#32]).phase = .running ∧ (setUp 512 508#32 [] [0x00538533#32]).pc.toNat + 4 ≤ 512 ∧
    fetch (setUp 512 508#32 [] [0x00538533#32]) = .ok 0x00538533#32 ∧ IsAddWord 0x00538533#32 := ⟨rfl, by decide, rfl, by decide⟩

theorem test_witness_UnimplementedWordsOnlyAdvanceThePc :
    (one 0x40628233#32).phase = .running ∧ fetch (one 0x40628233#32) = .ok 0x40628233#32 ∧ Recognized 0x40628233#32 ∧ ¬ IsAddWord 0x40628233#32 ∧
    (afterwards .step (one 0x40628233#32)).status = .unimplementedInstruction 0x40628233#32 := ⟨rfl, rfl, by decide, by decide, by decide⟩

theorem test_witness_UnrecognizedWordsOnlyAdvanceThePc :
    (one 0x0000002F#32).phase = .running ∧ fetch (one 0x0000002F#32) = .ok 0x0000002F#32 ∧ ¬ Recognized 0x0000002F#32 ∧
    (afterwards .step (one 0x0000002F#32)).status = .unrecognizedOpcode 0x0000002F#32 := ⟨rfl, rfl, by decide, by decide⟩

theorem test_witness_StepIsRefusedExactlyBeforeInit :
    State.reset.phase = .uninitialized ∧ State.reset.init.phase = .running := by decide

theorem test_witness_FetchFaultRepeatsForever :
    (setUp 512 509#32 [] []).phase = .running ∧ (setUp 512 509#32 [] []).config.memCapacity < (setUp 512 509#32 [] []).pc.toNat + 4 := by decide

theorem test_witness_AddWrapsModuloTwoToThe32 :
    (setUp 512 12#32 [(1, 0xFFFFFFFF#32), (2, 1#32)] []).readReg 1 = 0xFFFFFFFF#32 ∧ (setUp 512 12#32 [(1, 0xFFFFFFFF#32), (2, 1#32)] []).readReg 2 = 1#32 ∧
    (3#5 : RegIdx) ≠ 0#5 ∧ (0#5 : RegIdx) = 0#5 := by decide

/-! The hypothesis of each family statement is membership in its list: the last instruction of each list, with its operands. -/

theorem test_witness_OpWordsReportAndAdvance : ∃ i : Instr, i = .opOther 32 1 1 2 3 ∧
    i ∈ [.sub 1 2 3, .sll 1 2 3, .slt 1 2 3, .sltu 1 2 3, .xor 1 2 3, .srl 1 2 3, .sra 1 2 3, .or 1 2 3, .and 1 2 3, .mul 1 2 3, .mulh 1 2 3,
      .mulhsu 1 2 3, .mulhu 1 2 3, .div 1 2 3, .divu 1 2 3, .rem 1 2 3, .remu 1 2 3, .opOther 32 1 1 2 3] := ⟨_, rfl, by decide⟩

theorem test_witness_OpImmWordsReportAndAdvance : ∃ i : Instr, i = .opImmOther 1 1 2 0x41F#32 ∧
    i ∈ [.addi 1 2 0x41F#32, .slti 1 2 0x41F#32, .sltiu 1 2 0x41F#32, .xori 1 2 0x41F#32, .ori 1 2 0x41F#32, .andi 1 2 0x41F#32,
      .slli 1 2 0x41F#32, .srli 1 2 0x41F#32, .srai 1 2 0x41F#32, .opImmOther 1 1 2 0x41F#32] := ⟨_, rfl, by decide⟩

theorem test_witness_UpperImmediateWordsReportAndAdvance : ∃ i : Instr, i = .auipc 1 0x1000#32 ∧
    i ∈ [.lui 1 0x1000#32, .auipc 1 0x1000#32] := ⟨_, rfl, by decide⟩

theorem test_witness_LoadAndStoreWordsReportAndAdvance : ∃ i : Instr, i = .storeReserved 7 2 3 (-1#32) ∧
    i ∈ [.lb 1 2 (-1#32), .lh 1 2 (-1#32), .lw 1 2 (-1#32), .lbu 1 2 (-1#32), .lhu 1 2 (-1#32), .loadReserved 7 1 2 (-1#32),
      .sb 2 3 (-1#32), .sh 2 3 (-1#32), .sw 2 3 (-1#32), .storeReserved 7 2 3 (-1#32)] := ⟨_, rfl, by decide⟩

theorem test_witness_ControlTransferWordsReportAndAdvance : ∃ i : Instr, i = .jalrReserved 2 1 2 8#32 ∧
    i ∈ [.beq 2 3 8#32, .bne 2 3 8#32, .blt 2 3 8#32, .bge 2 3 8#32, .bltu 2 3 8#32, .bgeu 2 3 8#32, .branchReserved 2 2 3 8#32,
      .jal 1 8#32, .jalr 1 2 8#32, .jalrReserved 2 1 2 8#32] := ⟨_, rfl, by decide⟩

theorem test_witness_SystemAndFenceWordsReportAndAdvance : ∃ i : Instr, i = .miscMemOther 2 0 0 0xFF#32 ∧
    i ∈ [.ecall, .ebreak, .csrrw 0x73#32, .csrrs 0x73#32, .csrrc 0x73#32, .csrrwi 0x73#32, .csrrsi 0x73#32, .csrrci 0x73#32,
      .systemOther 0x73#32, .fence 0 0 0xFF#32, .fenceI 0 0 0xFF#32, .miscMemOther 2 0 0 0xFF#32] := ⟨_, rfl, by decide⟩

theorem test_witness_OnlyAddChangesARegister :
    step (one 0x00538533#32) = .next ((one 0x00538533#32).writeReg 10 9#32 |>.retire .ok) ∧
    ((one 0x00538533#32).writeReg 10 9#32 |>.retire .ok).readReg 10 ≠ (one 0x00538533#32).readReg 10 := ⟨rfl, by decide⟩

/-- A reachable state that is still Uninitialized: constructed, then loaded. -/
theorem test_witness_ReachableStatesHaveTheInvariant : Reachable twoWords ∧ twoWords.phase = .uninitialized :=
  ⟨⟨512, 12, State.reset, [.mapWords 0#32 [0x11223344#32, 0x55667788#32]], rfl, rfl⟩, rfl⟩

theorem test_witness_StepsWithinMemoryAllComplete :
    State.reset.init.phase = .running ∧ State.reset.init.pc.toNat + 4 * 125 ≤ State.reset.init.config.memCapacity := by decide

/-- P1's first two words: two steps, both Ok. -/
theorem test_witness_SafeRunExecutesOnlyAdds : safeRun 2 (setUp 512 12#32 [(1, 1#32), (2, 1#32)] [0x002081B3#32, 0x00310233#32]) = true := by decide

theorem test_witness_FetchSeesTheHostsWrite :
    (one 0#32).Inv ∧ (one 0#32).phase = .running ∧
    mapWords (one 0#32) 12#32 [0x00538533#32] = .ok { one 0#32 with mem := (one 0#32).mem.writeBytes 12 (wordBytes 0x00538533#32) } :=
  ⟨by decide, rfl, rfl⟩

theorem test_witness_WithFetchWordRunsTheWordNext :
    (setUp 512 508#32 [] []).mem.wf ∧ (setUp 512 508#32 [] []).phase = .running ∧ (setUp 512 508#32 [] []).pc.toNat + 4 ≤ 512 ∧
    State.reset.mem.wf ∧ State.reset.phase = .uninitialized ∧ State.reset.config.startAddress.toNat + 4 ≤ State.reset.config.memCapacity := by decide

/-- P3: a Running state, whose first step here reports an error status and leaves a state from which the next one runs. -/
theorem test_witness_NoStatusEndsTheRun :
    (one 0x00500293#32).phase = .running ∧ runSteps 2 (one 0x00500293#32) =
      .next { one 0x00500293#32 with pc := 20#32, status := .unrecognizedOpcode 0#32 } := ⟨rfl, rfl⟩

/-- For FieldsOfTheRISAndULayouts: W2, the I minimum and the S word of section 2.2, and the `lui` of section 2.6. -/
theorem test_witness_FieldsOfTheRISAndULayouts :
    (RWord.mk 0x01498933#32).word = 0#7 ++ 20#5 ++ 19#5 ++ 0#3 ++ 18#5 ++ 0b0110011#7 ∧
    (IWord.mk 0x80000013#32).word = 0x800#12 ++ 0#5 ++ 0#3 ++ 0#5 ++ 0b0010011#7 ∧
    (SWord.mk 0xFE000FA3#32).word = 0x7F#7 ++ 0#5 ++ 0#5 ++ 0#3 ++ 0x1F#5 ++ 0b0100011#7 ∧
    (UWord.mk 0x123452B7#32).word = 0x12345#20 ++ 5#5 ++ 0b0110111#7 := by decide

/-- For BitPlacesOfTheBAndJImmediates: `beq x0, x0, -4` and the J word `jal x1, -8` of sections 1 and 2.2. -/
theorem test_witness_BitPlacesOfTheBAndJImmediates :
    (BWord.mk 0xFE000EE3#32).word = 1#1 ++ 0b111111#6 ++ 0#5 ++ 0#5 ++ 0#3 ++ 0b1110#4 ++ 1#1 ++ 0b1100011#7 ∧
    (JWord.mk 0xFF9FF0EF#32).word = 1#1 ++ 0b1111111100#10 ++ 1#1 ++ 0b11111111#8 ++ 1#5 ++ 0b1101111#7 := by decide

/-- For EveryTransactionKeepsThePhaseRule: a load that stays Uninitialized, a step that stays Running, and init, which enters it. -/
theorem test_witness_EveryTransactionKeepsThePhaseRule :
    (State.reset.phase = .uninitialized ∧ State.reset.pc = 0#32 ∧ twoWords.phase = .uninitialized) ∧
    ((one 0#32).phase = .running ∧ (afterwards .step (one 0#32)).phase = .running) ∧
    transact .init State.reset = .next { state := State.reset.init, value := none } ∧ State.reset.init.phase = .running :=
  ⟨by decide, by decide, rfl, rfl⟩

end Sys2Proof.Tests
end

/-! What construction and one transaction can do, said once (70_reset_and_hazards.md R230, R233), and that neither a step nor a
transaction changes the configuration (10_state.md R35). Later proofs cite `construct_eq_next_iff` and `transact_cases` instead of
unfolding `construct` or `transact`. -/

namespace Sys2Proof.Machine

/-- The arguments are legal exactly within the ranges of R8. -/
theorem legalArguments_iff {capacity start : Nat} :
    Config.legalArguments capacity start = true ↔ capacity ≤ 2 ^ 32 ∧ start < 2 ^ 32 := by
  simp only [Config.legalArguments, Bool.and_eq_true, decide_eq_true_eq]
  rfl

/-- Construction answers a state exactly for arguments in range, and then the constructed state of those arguments. -/
theorem construct_eq_next_iff {capacity start : Nat} {s : State} :
    construct capacity start = .next s ↔ (capacity ≤ 2 ^ 32 ∧ start < 2 ^ 32) ∧
      s = State.constructed { memCapacity := capacity, startAddress := BitVec.ofNat 32 start } := by
  rw [← legalArguments_iff, construct]
  split <;> simp [*, eq_comm (a := s)]

/-- The execute stage keeps the configuration. -/
theorem exec_config {i : Instr} {s s' : State} (h : exec i s = .next s') : s'.config = s.config := by
  rcases exec_cases i s with ⟨_, _, _, -, he⟩ | ⟨_, -, he⟩ | ⟨-, -, he⟩ <;>
    · cases he.symm.trans h
      simp

/-- A step that answers keeps the configuration. -/
theorem step_config {s s' : State} (h : step s = .next s') : s'.config = s.config := by
  rcases step_cases s with ⟨-, he⟩ | ⟨-, -, he⟩ | ⟨-, -, _, -, he⟩
  · cases he.symm.trans h
  · cases he.symm.trans h
    simp
  · exact exec_config (he.symm.trans h)

/-- A transaction that reads changes nothing but the status. -/
theorem settleRead_state (s : State) (e : Except Status Value) : ∃ st, (settleRead s e).state = s.returns st := by
  cases e with
  | ok v => exact ⟨.ok, rfl⟩
  | error st => exact ⟨st, rfl⟩

/-- A transaction that writes leaves what its port answered with Ok, or the old state with the port's error. -/
theorem settleWrite_state (s : State) (e : Except Status State) :
    (∃ s', e = .ok s' ∧ (settleWrite s e).state = s'.returns .ok) ∨ ∃ st, (settleWrite s e).state = s.returns st := by
  cases e with
  | ok s' => exact .inl ⟨s', rfl, rfl⟩
  | error st => exact .inr ⟨st, rfl⟩

/-- The register port writes exactly for an index below 32 (R30). -/
theorem regWrite_eq_ok_iff {s s' : State} {i : Nat} {v : Word} :
    regWrite s i v = .ok s' ↔ i < 32 ∧ s' = s.writeReg (BitVec.ofNat 5 i) v := by
  by_cases h : 32 ≤ i <;> simp [regWrite, h, eq_comm, Nat.not_lt.mpr, Nat.lt_of_not_le]

/-- The bytes of a list of words are four to a word. -/
theorem length_flatMap_wordBytes (ws : List Word) : (ws.flatMap wordBytes).length = 4 * ws.length := by
  simp [List.length_flatMap, wordBytes, Nat.mul_comm]

/-- A byte load succeeds exactly when it is empty or its span is in range (R60, R62, D16). -/
theorem mapBytes_eq_ok_iff {s s' : State} {o : Word} {bs : List Byte} :
    mapBytes s o bs = .ok s' ↔ (bs = [] ∨ o.toNat + bs.length ≤ s.config.memCapacity) ∧
      s' = { s with mem := s.mem.writeBytes o.toNat bs } := by
  by_cases hb : bs = []
  · simp [mapBytes, hb, eq_comm]
  · by_cases h : o.toNat + bs.length ≤ s.config.memCapacity <;>
      simp [mapBytes, inRange, hb, h, List.length_pos_iff, eq_comm]

/-- A word load is the byte load of the words' bytes (R61). -/
theorem mapWords_eq_mapBytes (s : State) (o : Word) (ws : List Word) :
    mapWords s o ws = mapBytes s o (ws.flatMap wordBytes) := by
  simp only [mapWords, mapBytes, length_flatMap_wordBytes, gt_iff_lt, Nat.mul_pos_iff_of_pos_left, Nat.zero_lt_succ]

/-- Everything a transaction that answers can do to the state: init, a step, a register write, a load of bytes or words, or nothing but
return a status. -/
theorem transact_cases {t : Transaction} {s : State} {r : Reply} (h : transact t s = .next r) :
    (t = .init ∧ r.state = s.init) ∨
    (t = .step ∧ step s = .next r.state) ∨
    (∃ i v, t = .regWrite i v ∧ i < 32 ∧ r.state = (s.writeReg (BitVec.ofNat 5 i) v).returns .ok) ∨
    (∃ o bs, (t = .mapBytes o bs ∨ ∃ ws, t = .mapWords o ws ∧ bs = ws.flatMap wordBytes) ∧
      (bs = [] ∨ o.toNat + bs.length ≤ s.config.memCapacity) ∧
      r.state = { s with mem := s.mem.writeBytes o.toNat bs }.returns .ok) ∨
    ∃ st, r.state = s.returns st := by
  cases t with
  | init =>
    cases h
    exact .inl ⟨rfl, rfl⟩
  | step =>
    cases hs : step s <;> simp only [transact, hs] at h <;> cases h
    exact .inr (.inl ⟨rfl, rfl⟩)
  | regWrite i v =>
    cases h
    rcases settleWrite_state s (regWrite s i v) with ⟨s', he, hr⟩ | hr
    · obtain ⟨hi, rfl⟩ := regWrite_eq_ok_iff.mp he
      exact .inr (.inr (.inl ⟨i, v, rfl, hi, hr⟩))
    · exact .inr (.inr (.inr (.inr hr)))
  | mapBytes o bs =>
    cases h
    rcases settleWrite_state s (mapBytes s o bs) with ⟨s', he, hr⟩ | hr
    · obtain ⟨hb, rfl⟩ := mapBytes_eq_ok_iff.mp he
      exact .inr (.inr (.inr (.inl ⟨o, bs, .inl rfl, hb, hr⟩)))
    · exact .inr (.inr (.inr (.inr hr)))
  | mapWords o ws =>
    cases h
    rcases settleWrite_state s (mapWords s o ws) with ⟨s', he, hr⟩ | hr
    · obtain ⟨hb, rfl⟩ := mapBytes_eq_ok_iff.mp (mapWords_eq_mapBytes s o ws ▸ he)
      exact .inr (.inr (.inr (.inl ⟨o, _, .inr ⟨ws, rfl, rfl⟩, hb, hr⟩)))
    · exact .inr (.inr (.inr (.inr hr)))
  | regRead | getPc | memRead8 | memRead32 =>
    cases h
    exact .inr (.inr (.inr (.inr (settleRead_state s _))))

/-- A transaction that answers keeps the configuration. -/
theorem transact_config {t : Transaction} {s : State} {r : Reply} (h : transact t s = .next r) :
    r.state.config = s.config := by
  rcases transact_cases h with ⟨-, hr⟩ | ⟨-, hs⟩ | ⟨_, _, -, -, hr⟩ | ⟨_, _, -, -, hr⟩ | ⟨_, hr⟩
  case inr.inl => exact step_config hs
  all_goals simp [hr]

/-- Settles O57: construction takes the configuration from its arguments, where the start address fits a word, and every transaction
keeps it. -/
theorem configurationIsFixedAtConstruction : Obligations.ConfigurationIsFixedAtConstruction := by
  unfold Obligations.ConfigurationIsFixedAtConstruction
  constructor
  · intro capacity start s h
    obtain ⟨⟨-, hstart⟩, rfl⟩ := construct_eq_next_iff.mp h
    exact ⟨rfl, Nat.mod_eq_of_lt hstart⟩
  · intro t s r h
    rw [transact_config h]
    exact ⟨rfl, rfl⟩

end Sys2Proof.Machine

/-! Memory is zero-filled at construction, and its size is part of the configuration, which no transaction changes (20_memory.md R52). -/

namespace Sys2Proof.Machine

/-- Construction lists no address, so every address reads as an unlisted one does: zero. -/
@[simp] theorem State.constructed_read (c : Config) (a : Nat) : (State.constructed c).mem.read a = 0x00#8 := rfl

/-- Settles O10: the constructed state is zero-filled and has the capacity given; the capacity stays because a transaction keeps the
whole configuration. -/
theorem memoryIsZeroFilledAndKeepsItsSize : Obligations.MemoryIsZeroFilledAndKeepsItsSize := by
  unfold Obligations.MemoryIsZeroFilledAndKeepsItsSize
  constructor
  · intro capacity start s h
    obtain ⟨-, rfl⟩ := construct_eq_next_iff.mp h
    exact ⟨rfl, State.constructed_read _⟩
  · intro t s r h
    rw [transact_config h]

end Sys2Proof.Machine

/-! What the accessors of each format read from the layout of its fields (30_encoding.md R81 to R86), and the U-type immediate as a
masked word (R92). A layout with its immediate's bits written out is the encoder's word for that immediate, so the field laws of
Laws/Fields.lean say what the accessors read. In the proofs `-Nat.reduceAdd` keeps a width a sum, as the laws of `++` have it. -/

namespace Sys2Proof.Encoding

/-! ## The layouts with the immediate's bits written out -/

section Layouts
variable (f7 op : BitVec 7) (f3 : BitVec 3) (rs2 rs1 rd lo : RegIdx) (i12 : BitVec 12) (u20 : BitVec 20)
variable (w31 w7 w20 : BitVec 1) (w30_25 : BitVec 6) (w11_8 : BitVec 4) (w19_12 : BitVec 8) (w30_21 : BitVec 10)

theorem encodeI_setWidth : encodeI (i12.setWidth 32) rs1 f3 rd op = i12 ++ rs1 ++ f3 ++ rd ++ op := by
  simp [encodeI, BitVec.extractLsb'_setWidth_of_le]

theorem encodeS_setWidth_append :
    encodeS ((f7 ++ lo).setWidth 32) rs2 rs1 f3 op = f7 ++ rs2 ++ rs1 ++ f3 ++ lo ++ op := by
  simp [-Nat.reduceAdd, encodeS, BitVec.extractLsb'_setWidth_of_le, BitVec.extractLsb'_append_eq_of_le,
    BitVec.extractLsb'_append_eq_of_add_le]

theorem encodeB_setWidth_append :
    encodeB ((w31 ++ w7 ++ w30_25 ++ w11_8 ++ 0#1).setWidth 32) rs2 rs1 f3 op =
      w31 ++ w30_25 ++ rs2 ++ rs1 ++ f3 ++ w11_8 ++ w7 ++ op := by
  simp [-Nat.reduceAdd, encodeB, BitVec.extractLsb'_setWidth_of_le, BitVec.extractLsb'_append_eq_of_le,
    BitVec.extractLsb'_append_eq_of_add_le]

theorem encodeU_append_zero : encodeU (u20 ++ 0#12) rd op = u20 ++ rd ++ op := by
  simp [-Nat.reduceAdd, encodeU, BitVec.extractLsb'_append_eq_of_le]

theorem encodeJ_setWidth_append :
    encodeJ ((w31 ++ w19_12 ++ w20 ++ w30_21 ++ 0#1).setWidth 32) rd op = w31 ++ w30_21 ++ w20 ++ w19_12 ++ rd ++ op := by
  simp [-Nat.reduceAdd, encodeJ, BitVec.extractLsb'_setWidth_of_le, BitVec.extractLsb'_append_eq_of_le,
    BitVec.extractLsb'_append_eq_of_add_le]

end Layouts

/-! ## The immediate read back from the encoder's word: signed but for U (R89 to R93) -/

section Immediates
variable (x : BitVec 12) (y : BitVec 20) (op : BitVec 7) (f3 : BitVec 3) (rs2 rs1 rd : RegIdx)

theorem toInt_immI_encodeI : (immI (encodeI (x.setWidth 32) rs1 f3 rd op)).toInt = x.toInt := by
  simp [BitVec.extractLsb'_setWidth_of_le, BitVec.toInt_signExtend_of_le]

theorem toInt_immS_encodeS : (immS (encodeS (x.setWidth 32) rs2 rs1 f3 op)).toInt = x.toInt := by
  simp [BitVec.extractLsb'_setWidth_of_le, BitVec.toInt_signExtend_of_le]

theorem toInt_immB_encodeB : (immB (encodeB ((x ++ 0#1).setWidth 32) rs2 rs1 f3 op)).toInt = (x ++ 0#1).toInt := by
  simp [-Nat.reduceAdd, BitVec.extractLsb'_setWidth_of_le, BitVec.extractLsb'_append_eq_of_le, BitVec.toInt_signExtend_of_le]

theorem toInt_immJ_encodeJ : (immJ (encodeJ ((y ++ 0#1).setWidth 32) rd op)).toInt = (y ++ 0#1).toInt := by
  simp [-Nat.reduceAdd, BitVec.extractLsb'_setWidth_of_le, BitVec.extractLsb'_append_eq_of_le, BitVec.toInt_signExtend_of_le]

/-- The U-type immediate is its 20-bit field times 4096: not sign-extended (R92). -/
theorem toNat_immU (w : Word) : (immU w).toNat = (w.extractLsb' 12 20).toNat * 2 ^ 12 := by
  rw [immU, BitVec.toNat_append, BitVec.toNat_ofNat, Nat.zero_mod, Nat.or_zero, Nat.shiftLeft_eq]

theorem toNat_immU_encodeU : (immU (encodeU (y ++ 0#12) rd op)).toNat = y.toNat * 2 ^ 12 := by
  have hfield : (encodeU (y ++ 0#12) rd op).extractLsb' 12 20 = y := by
    simp [-Nat.reduceAdd, encodeU, BitVec.extractLsb'_append_eq_of_le]
  rw [toNat_immU, hfield]

end Immediates

/-- The mask 0xFFFFF000 keeps the upper 20 bits of a word and clears the low 12. -/
theorem and_upperMask (w : Word) : w &&& 0xFFFFF000#32 = w.extractLsb' 12 20 ++ 0#12 := by
  have hw : w.extractLsb' 12 20 ++ w.extractLsb' 0 12 = w := BitVec.extractLsb'_append_extractLsb' (w := 20) (len := 12)
  have hm : (0xFFFFF000#32 : Word) = BitVec.allOnes 20 ++ 0#12 := by decide
  conv_lhs => rw [← hw, hm]
  exact BitVec.and_append.trans (by rw [BitVec.and_allOnes, BitVec.and_zero])

/-! ## The obligations -/

/-- Settles O8: the concatenation is the definition, the mask splits the word at bit 12, and the range is that of a 20-bit field times
4096. -/
theorem upperImmediateIsTheMaskedWord : Obligations.UpperImmediateIsTheMaskedWord := by
  unfold Obligations.UpperImmediateIsTheMaskedWord
  intro w
  have hfield := (w.extractLsb' 12 20).isLt
  exact ⟨rfl, (and_upperMask w).symm, by rw [toNat_immU]; omega, by rw [toNat_immU]; omega⟩

/-- Settles O55: each layout is the word that the encoder of its format makes of the same fields. -/
theorem fieldsOfTheRISAndULayouts : Obligations.FieldsOfTheRISAndULayouts := by
  unfold Obligations.FieldsOfTheRISAndULayouts
  intro f7 op f3 rs2 rs1 rd lo i12 u20
  refine ⟨?_, ?_, ?_, ?_⟩
  · rintro ⟨w⟩ h
    obtain rfl : w = encodeR f7 rs2 rs1 f3 rd op := h
    exact ⟨opcodeOf_encodeR .., rdOf_encodeR .., funct3Of_encodeR .., rs1Of_encodeR .., rs2Of_encodeR .., funct7Of_encodeR ..⟩
  · rintro ⟨w⟩ h
    obtain rfl := h.trans (encodeI_setWidth ..).symm
    exact ⟨opcodeOf_encodeI .., rdOf_encodeI .., funct3Of_encodeI .., rs1Of_encodeI .., toInt_immI_encodeI ..⟩
  · rintro ⟨w⟩ h
    obtain rfl := h.trans (encodeS_setWidth_append ..).symm
    exact ⟨opcodeOf_encodeS .., funct3Of_encodeS .., rs1Of_encodeS .., rs2Of_encodeS .., toInt_immS_encodeS ..⟩
  · rintro ⟨w⟩ h
    obtain rfl := h.trans (encodeU_append_zero ..).symm
    exact ⟨opcodeOf_encodeU .., rdOf_encodeU .., toNat_immU_encodeU ..⟩

/-- Settles O59: the encoder puts each bit of a B or J immediate in the place the layout has it, and the accessor reads the immediate
back with its sign. -/
theorem bitPlacesOfTheBAndJImmediates : Obligations.BitPlacesOfTheBAndJImmediates := by
  unfold Obligations.BitPlacesOfTheBAndJImmediates
  intro op f3 rs2 rs1 rd w31 w7 w20 w30_25 w11_8 w19_12 w30_21
  constructor
  · rintro ⟨w⟩ h
    obtain rfl := h.trans (encodeB_setWidth_append ..).symm
    exact ⟨opcodeOf_encodeB .., funct3Of_encodeB .., rs1Of_encodeB .., rs2Of_encodeB .., toInt_immB_encodeB ..⟩
  · rintro ⟨w⟩ h
    obtain rfl := h.trans (encodeJ_setWidth_append ..).symm
    exact ⟨opcodeOf_encodeJ .., rdOf_encodeJ .., toInt_immJ_encodeJ ..⟩

end Sys2Proof.Encoding

/-! A Running block always has a next step, and runs of steps compose (40_step_sequencer.md R129): no status ends a run. -/

namespace Sys2Proof.Machine

/-- The execute stage always answers a next state, and keeps the phase. -/
theorem exec_answers_samePhase (i : Instr) (s : State) : ∃ t, exec i s = .next t ∧ t.phase = s.phase := by
  rcases exec_cases i s with ⟨_, _, _, -, he⟩ | ⟨_, -, he⟩ | ⟨-, -, he⟩ <;>
    exact ⟨_, he, by simp⟩

/-- A step of a Running block always answers a next state, which is Running: after a fetch fault, or from the execute stage. -/
theorem step_answers_running {s : State} (hp : s.phase = .running) : ∃ t, step s = .next t ∧ t.phase = .running := by
  rcases fetch_cases s with ⟨-, w, hf⟩ | ⟨-, hf⟩
  · obtain ⟨t, he, ht⟩ := exec_answers_samePhase (decode w) s
    exact ⟨t, (step_of_fetch hp hf).trans he, ht.trans hp⟩
  · exact ⟨_, step_of_fetch_error hp hf, hp⟩

@[simp] theorem runSteps_zero (s : State) : runSteps 0 s = .next s := rfl

/-- A run whose first step answers goes on from the state that step left. -/
theorem runSteps_succ_of_step {s t : State} (h : step s = .next t) (n : Nat) : runSteps (n + 1) s = runSteps n t := by
  simp only [runSteps, h]

/-- Any number of steps from a Running state answer a Running state, and any further steps are steps from that one. -/
theorem runSteps_answers_running (n : Nat) {s : State} (hp : s.phase = .running) :
    ∃ t, runSteps n s = .next t ∧ t.phase = .running ∧ ∀ m, runSteps (n + m) s = runSteps m t := by
  induction n generalizing s with
  | zero => exact ⟨s, runSteps_zero s, hp, fun m => by rw [Nat.zero_add]⟩
  | succ n ih =>
    obtain ⟨u, hu, hup⟩ := step_answers_running hp
    obtain ⟨t, ht, htp, hadd⟩ := ih hup
    refine ⟨t, (runSteps_succ_of_step hu n).trans ht, htp, fun m => ?_⟩
    rw [Nat.add_right_comm, runSteps_succ_of_step hu, hadd]

/-- Settles O54: by induction on the number of steps, since a Running block's step always answers a Running state; that state's own next
step is the same fact once more. -/
theorem noStatusEndsTheRun : Obligations.NoStatusEndsTheRun := by
  unfold Obligations.NoStatusEndsTheRun
  intro s n hp
  obtain ⟨t, ht, htp, hadd⟩ := runSteps_answers_running n hp
  exact ⟨t, ht, htp, step_answers_running htp, hadd⟩

end Sys2Proof.Machine

/-! ADD and the ALU's sum (41_alu_register.md R140, R142): the sum's unsigned and signed values, and the state that ADD leaves. -/

namespace Sys2Proof.Machine

/-- The sum of the unsigned operands, modulo 2^32. -/
theorem aluAdd_toNat (a b : Word) : (aluAdd a b).toNat = (a.toNat + b.toNat) % 2 ^ 32 := BitVec.toNat_add a b

/-- The sum of the signed operands, wrapped into the signed range. -/
theorem aluAdd_toInt (a b : Word) : (aluAdd a b).toInt = (a.toInt + b.toInt).bmod (2 ^ 32) := BitVec.toInt_add a b

/-- R142's own example: the largest unsigned operand plus 1 wraps to 0. -/
theorem aluAdd_max_one : aluAdd 0xFFFFFFFF#32 1#32 = 0#32 := by decide

/-- ADD writes the sum of its sources as they were, and retires with Ok whatever they are (R140). -/
theorem exec_add (rd rs1 rs2 : RegIdx) (s : State) :
    exec (.add rd rs1 rs2) s = .next ((s.writeReg rd (aluAdd (s.readReg rs1) (s.readReg rs2))).retire .ok) := rfl

/-- A register other than x0 holds what was just written to it. -/
theorem State.readReg_writeReg_same {i : RegIdx} (hi : i ≠ 0#5) (s : State) (v : Word) : (s.writeReg i v).readReg i = v := by
  rw [State.readReg_writeReg, if_pos ⟨rfl, hi⟩]

/-- Settles O35: where rd is x0 the write is discarded; elsewhere rd reads the ALU's sum, whose two values are `aluAdd_toNat` and
`aluAdd_toInt`. -/
theorem addWrapsModuloTwoToThe32 : Obligations.AddWrapsModuloTwoToThe32 := by
  unfold Obligations.AddWrapsModuloTwoToThe32
  intro s rd rs1 rs2
  refine ⟨_, exec_add rd rs1 rs2 s, State.retire_status .., ?_, ?_⟩
  · rintro rfl r
    rw [State.readReg_retire, State.writeReg_zero]
  · intro hrd
    rw [State.readReg_retire, State.readReg_writeReg_same hrd]
    refine ⟨aluAdd_toNat .., aluAdd_toInt .., fun h1 h2 => ?_⟩
    rw [h1, h2, aluAdd_max_one]

/-- Settles O56: the sum's two values hold for all operands, and ADD retires with Ok after writing that sum, overflow or not. -/
theorem theAluAddsModuloTwoToThe32 : Obligations.TheAluAddsModuloTwoToThe32 := by
  unfold Obligations.TheAluAddsModuloTwoToThe32
  refine ⟨fun a b => ⟨aluAdd_toNat a b, aluAdd_toInt a b⟩, aluAdd_max_one, fun s rd rs1 rs2 => ?_⟩
  exact ⟨_, exec_add rd rs1 rs2 s, State.retire_status .., State.retire_regs ..⟩

end Sys2Proof.Machine

/-! MemoryFault (60_exceptions.md R203): which operations answer it, and that it leaves the state as it was. A transaction returns the
error of its port, or the status of its step; each port and the step say once when that is MemoryFault. -/

namespace Sys2Proof.Machine

/-! ## When a port fails with MemoryFault -/

section Ports
variable {s : State} {o a : Word}

/-- The bounds check of R54 as the read ports make it: it fails exactly where the access ends beyond memory, with the access's start. -/
theorem ite_inRange_eq_memoryFault_iff {α : Type} (x : α) (c : Config) (n : Nat) :
    (if inRange c o.toNat n then .ok x else .error (.memoryFault o) : Except Status α) = .error (.memoryFault a) ↔
      o = a ∧ c.memCapacity < a.toNat + n := by
  by_cases h : o.toNat + n ≤ c.memCapacity
  · simp only [inRange_iff, h, if_true, reduceCtorEq, false_iff]
    rintro ⟨rfl, hout⟩
    omega
  · simp only [inRange_iff, h, if_false, Except.error.injEq, Status.memoryFault.injEq, iff_self_and]
    rintro rfl
    omega

theorem memRead8_eq_memoryFault_iff :
    memRead8 s o = .error (.memoryFault a) ↔ o = a ∧ s.config.memCapacity < a.toNat + 1 :=
  ite_inRange_eq_memoryFault_iff ..

theorem memRead32_eq_memoryFault_iff :
    memRead32 s o = .error (.memoryFault a) ↔ o = a ∧ s.config.memCapacity < a.toNat + 4 :=
  ite_inRange_eq_memoryFault_iff ..

/-- A byte load that is not empty is checked as a read of its span is; an empty one never fails (R60, R62, D16). -/
theorem mapBytes_eq_memoryFault_iff {bs : List Byte} :
    mapBytes s o bs = .error (.memoryFault a) ↔ o = a ∧ bs ≠ [] ∧ s.config.memCapacity < a.toNat + bs.length := by
  by_cases hb : bs = []
  · simp [mapBytes, hb]
  · have hcheck : mapBytes s o bs = if inRange s.config o.toNat bs.length then
        .ok { s with mem := s.mem.writeBytes o.toNat bs } else .error (.memoryFault o) := by
      cases h : inRange s.config o.toNat bs.length <;> simp [mapBytes, hb, h, List.length_pos_iff]
    rw [hcheck, ite_inRange_eq_memoryFault_iff, and_iff_right hb]

/-- A word load is the byte load of four bytes to a word (R61). -/
theorem mapWords_eq_memoryFault_iff {ws : List Word} :
    mapWords s o ws = .error (.memoryFault a) ↔ o = a ∧ ws ≠ [] ∧ s.config.memCapacity < a.toNat + 4 * ws.length := by
  have hempty : ws.flatMap wordBytes = [] ↔ ws = [] := by
    rw [← List.length_eq_zero_iff, length_flatMap_wordBytes, ← List.length_eq_zero_iff]
    omega
  rw [mapWords_eq_mapBytes, mapBytes_eq_memoryFault_iff, Ne, hempty, length_flatMap_wordBytes]

/-- The register port's only error is InvalidRegister (R30). -/
theorem regRead_ne_memoryFault (i : Nat) : regRead s i ≠ .error (.memoryFault a) := by
  unfold regRead
  split <;> nofun

theorem regWrite_ne_memoryFault (i : Nat) (v : Word) : regWrite s i v ≠ .error (.memoryFault a) := by
  unfold regWrite
  split <;> nofun

end Ports

/-! ## When a step, and a transaction, answers MemoryFault -/

section Answers
variable {s s' : State} {a : Word}

/-- No instruction answers MemoryFault: the execute stage has no access to memory (R126, R140). -/
theorem exec_status_ne_memoryFault {i : Instr} (h : exec i s = .next s') : s'.status ≠ .memoryFault a := by
  rcases exec_cases i s with ⟨_, _, _, -, he⟩ | ⟨_, -, he⟩ | ⟨-, -, he⟩ <;>
    · cases he.symm.trans h
      simp

/-- A step answers MemoryFault exactly where its fetch is beyond memory (R123). -/
theorem step_status_memoryFault_iff (h : step s = .next s') :
    s'.status = .memoryFault a ↔ a = s.pc ∧ s.config.memCapacity < a.toNat + 4 := by
  rcases step_cases s with ⟨-, he⟩ | ⟨-, hout, he⟩ | ⟨-, hin, _, -, he⟩
  · cases he.symm.trans h
  · cases he.symm.trans h
    simp only [State.returns_status, Status.memoryFault.injEq, eq_comm (a := a), iff_self_and]
    rintro rfl
    exact hout
  · refine iff_of_false (exec_status_ne_memoryFault (he.symm.trans h)) ?_
    rintro ⟨rfl, hout⟩
    omega

/-- A step that answers MemoryFault did nothing else (R130, D8). -/
theorem step_eq_returns_of_memoryFault (h : step s = .next s') (hst : s'.status = .memoryFault a) :
    s' = s.returns (.memoryFault a) := by
  rcases step_cases s with ⟨-, he⟩ | ⟨-, -, he⟩ | ⟨-, -, _, -, he⟩
  · cases he.symm.trans h
  · cases he.symm.trans h
    cases hst
    rfl
  · exact absurd hst (exec_status_ne_memoryFault (he.symm.trans h))

/-- A transaction that reads answers MemoryFault exactly when its port failed with it. -/
theorem settleRead_status_memoryFault_iff {e : Except Status Value} :
    (settleRead s e).state.status = .memoryFault a ↔ e = .error (.memoryFault a) := by
  cases e <;> simp [settleRead]

/-- A transaction that writes answers MemoryFault exactly when its port failed with it. -/
theorem settleWrite_status_memoryFault_iff {e : Except Status State} :
    (settleWrite s e).state.status = .memoryFault a ↔ e = .error (.memoryFault a) := by
  cases e <;> simp [settleWrite]

/-- A read port's error is not touched by the wrapping of its value. -/
theorem map_eq_error_iff {α β : Type} {f : α → β} {e : Except Status α} {st : Status} : e.map f = .error st ↔ e = .error st := by
  cases e <;> simp [Except.map]

/-- A step as a transaction answers the state that the step left, and no value. -/
theorem transact_step_eq_next_iff {r : Reply} :
    transact .step s = .next r ↔ ∃ s', step s = .next s' ∧ r = { state := s', value := none } := by
  cases hs : step s <;> simp [transact, hs, eq_comm]

/-- A transaction that answers MemoryFault returned that status and did nothing else: no value, and the old state. -/
theorem transact_eq_of_memoryFault {t : Transaction} {r : Reply} (h : transact t s = .next r)
    (hst : r.state.status = .memoryFault a) : r = { state := s.returns (.memoryFault a), value := none } := by
  cases t with
  | init =>
    cases h
    cases hst
  | step =>
    obtain ⟨_, hs, rfl⟩ := transact_step_eq_next_iff.mp h
    rw [step_eq_returns_of_memoryFault hs hst]
  | regRead | getPc | memRead8 | memRead32 =>
    cases h
    rw [settleRead_status_memoryFault_iff.mp hst, settleRead]
  | regWrite | mapBytes | mapWords =>
    cases h
    rw [settleWrite_status_memoryFault_iff.mp hst, settleWrite]

end Answers

/-- Settles O24: a transaction that answers MemoryFault did nothing else (`transact_eq_of_memoryFault`), and which accesses make it answer
so is what the step and each port say of themselves. -/
theorem memoryFaultChangesNothing : Obligations.MemoryFaultChangesNothing := by
  unfold Obligations.MemoryFaultChangesNothing
  intro t s r a h
  constructor
  · intro hst
    rw [transact_eq_of_memoryFault h hst]
    exact ⟨rfl, rfl⟩
  · cases t with
    | init =>
      cases h
      simp
    | step =>
      obtain ⟨_, hs, rfl⟩ := transact_step_eq_next_iff.mp h
      simp [step_status_memoryFault_iff hs]
    | regRead | getPc | memRead8 | memRead32 =>
      cases h
      simp [settleRead_status_memoryFault_iff, map_eq_error_iff, regRead_ne_memoryFault, memRead8_eq_memoryFault_iff,
        memRead32_eq_memoryFault_iff]
    | regWrite | mapBytes | mapWords =>
      cases h
      simp [settleWrite_status_memoryFault_iff, regWrite_ne_memoryFault, mapBytes_eq_memoryFault_iff,
        mapWords_eq_memoryFault_iff]

end Sys2Proof.Machine

/-! The decoder and the encoder are inverse to each other (30_encoding.md R81 to R109; log 12): an instruction is read back from its
word, and a word is the encoding of what is read from it. -/

namespace Sys2Proof.Encoding

/-! ## The accessors of a format are the fields of its word (R87) -/

section Accessors
variable (w : Word)

@[simp] theorem rWord_rd : (RWord.mk w).rd = rdOf w := rfl
@[simp] theorem rWord_funct3 : (RWord.mk w).funct3 = funct3Of w := rfl
@[simp] theorem rWord_rs1 : (RWord.mk w).rs1 = rs1Of w := rfl
@[simp] theorem rWord_rs2 : (RWord.mk w).rs2 = rs2Of w := rfl
@[simp] theorem rWord_funct7 : (RWord.mk w).funct7 = funct7Of w := rfl
@[simp] theorem iWord_rd : (IWord.mk w).rd = rdOf w := rfl
@[simp] theorem iWord_funct3 : (IWord.mk w).funct3 = funct3Of w := rfl
@[simp] theorem iWord_rs1 : (IWord.mk w).rs1 = rs1Of w := rfl
@[simp] theorem iWord_imm : (IWord.mk w).imm = immI w := rfl
@[simp] theorem sWord_funct3 : (SWord.mk w).funct3 = funct3Of w := rfl
@[simp] theorem sWord_rs1 : (SWord.mk w).rs1 = rs1Of w := rfl
@[simp] theorem sWord_rs2 : (SWord.mk w).rs2 = rs2Of w := rfl
@[simp] theorem sWord_imm : (SWord.mk w).imm = immS w := rfl
@[simp] theorem bWord_funct3 : (BWord.mk w).funct3 = funct3Of w := rfl
@[simp] theorem bWord_rs1 : (BWord.mk w).rs1 = rs1Of w := rfl
@[simp] theorem bWord_rs2 : (BWord.mk w).rs2 = rs2Of w := rfl
@[simp] theorem bWord_imm : (BWord.mk w).imm = immB w := rfl

end Accessors

/-! ## What the checks of well-formedness ask of an immediate and of a SYSTEM word -/

/-- An immediate that fits 12 bits is the sign extension of its low 12 bits. -/
theorem fitsImm12_iff {imm : Word} : fitsImm12 imm = true ↔ (imm.extractLsb' 0 12).signExtend 32 = imm :=
  beq_iff_eq.trans eq_comm

theorem fitsImmB_iff {imm : Word} : fitsImmB imm = true ↔ (imm.extractLsb' 1 12 ++ 0#1).signExtend 32 = imm :=
  beq_iff_eq.trans eq_comm

theorem fitsImmJ_iff {imm : Word} : fitsImmJ imm = true ↔ (imm.extractLsb' 1 20 ++ 0#1).signExtend 32 = imm :=
  beq_iff_eq.trans eq_comm

theorem fitsImmU_iff {imm : Word} : fitsImmU imm = true ↔ imm.extractLsb' 12 20 ++ 0#12 = imm := by
  have hw : imm.extractLsb' 12 20 ++ imm.extractLsb' 0 12 = imm :=
    BitVec.extractLsb'_append_extractLsb' (w := 20) (len := 12)
  rw [fitsImmU, beq_iff_eq]
  constructor
  · intro h
    rwa [h] at hw
  · intro h
    rw [← h]
    exact BitVec.extractLsb'_append_eq_right ..

theorem fitsShift_iff {upper : BitVec 7} {imm : Word} :
    fitsShift upper imm = true ↔ (imm.extractLsb' 0 12).signExtend 32 = imm ∧ imm.extractLsb' 5 7 = upper := by
  rw [fitsShift, Bool.and_eq_true, fitsImm12_iff, beq_iff_eq]

theorem isSystemWord_iff {w : Word} {f3 : BitVec 3} :
    isSystemWord w f3 = true ↔ opcodeOf w = opcodeSystem ∧ funct3Of w = f3 := by
  rw [isSystemWord, Bool.and_eq_true, beq_iff_eq, beq_iff_eq]

/-! ## A word as the encoding of its fields -/

section Words
variable {w : Word} {f7 op : BitVec 7} {f3 : BitVec 3}

/-- The low bits of a sign extension, up to the extended width, are those of the value. -/
theorem extractLsb'_signExtend {n k start len : Nat} (x : BitVec n) (h : start + len ≤ n) (hk : n ≤ k) :
    (x.signExtend k).extractLsb' start len = x.extractLsb' start len := by
  ext j hj
  simp only [BitVec.getElem_extractLsb', BitVec.getLsbD_signExtend]
  simp [show start + j < k by omega, show start + j < n by omega]

/-! A word is the encoding of its own fields and immediate, in every layout: no bit is outside them (R81 to R86). -/

theorem encodeR_of_fields (h7 : funct7Of w = f7) (h3 : funct3Of w = f3) (ho : opcodeOf w = op) :
    encodeR f7 (rs2Of w) (rs1Of w) f3 (rdOf w) op = w := by
  subst h7 h3 ho
  exact encodeR_fields w

theorem encodeI_of_fields (h3 : funct3Of w = f3) (ho : opcodeOf w = op) :
    encodeI (immI w) (rs1Of w) f3 (rdOf w) op = w := by
  subst h3 ho
  unfold encodeI immI
  simp (disch := omega) only [extractLsb'_signExtend]
  ext k hk
  simp only [rs1Of, funct3Of, rdOf, opcodeOf, BitVec.getElem_append, BitVec.getElem_extractLsb', BitVec.getLsbD_extractLsb']
  grind

theorem encodeS_of_fields (h3 : funct3Of w = f3) (ho : opcodeOf w = op) :
    encodeS (immS w) (rs2Of w) (rs1Of w) f3 op = w := by
  subst h3 ho
  unfold encodeS immS
  simp (disch := omega) only [extractLsb'_signExtend]
  ext k hk
  simp only [rs1Of, rs2Of, funct3Of, opcodeOf, BitVec.getElem_append, BitVec.getElem_extractLsb', BitVec.getLsbD_extractLsb',
    BitVec.getLsbD_append]
  grind

theorem encodeB_of_fields (h3 : funct3Of w = f3) (ho : opcodeOf w = op) :
    encodeB (immB w) (rs2Of w) (rs1Of w) f3 op = w := by
  subst h3 ho
  unfold encodeB immB
  simp (disch := omega) only [extractLsb'_signExtend]
  ext k hk
  simp only [rs1Of, rs2Of, funct3Of, opcodeOf, BitVec.getElem_append, BitVec.getElem_extractLsb', BitVec.getLsbD_extractLsb',
    BitVec.getLsbD_append]
  grind

theorem encodeU_of_fields (ho : opcodeOf w = op) : encodeU (immU w) (rdOf w) op = w := by
  subst ho
  unfold encodeU immU
  ext k hk
  simp only [rdOf, opcodeOf, BitVec.getElem_append, BitVec.getElem_extractLsb', BitVec.getLsbD_extractLsb',
    BitVec.getLsbD_append]
  grind

theorem encodeJ_of_fields (ho : opcodeOf w = op) : encodeJ (immJ w) (rdOf w) op = w := by
  subst ho
  unfold encodeJ immJ
  simp (disch := omega) only [extractLsb'_signExtend]
  ext k hk
  simp only [rdOf, opcodeOf, BitVec.getElem_append, BitVec.getElem_extractLsb', BitVec.getLsbD_extractLsb',
    BitVec.getLsbD_append]
  grind

/-! An immediate that a word has fits its format: the word is the encoding of its fields, and the field laws say what immediate an
encoded word has. -/

theorem fitsImm12_immI (w : Word) : fitsImm12 (immI w) = true :=
  fitsImm12_iff.mpr ((immI_encodeI ..).symm.trans (congrArg immI (encodeI_of_fields rfl rfl)))

theorem fitsImm12_immS (w : Word) : fitsImm12 (immS w) = true :=
  fitsImm12_iff.mpr ((immS_encodeS ..).symm.trans (congrArg immS (encodeS_of_fields rfl rfl)))

theorem fitsImmB_immB (w : Word) : fitsImmB (immB w) = true :=
  fitsImmB_iff.mpr ((immB_encodeB ..).symm.trans (congrArg immB (encodeB_of_fields rfl rfl)))

theorem fitsImmU_immU (w : Word) : fitsImmU (immU w) = true :=
  fitsImmU_iff.mpr ((immU_encodeU ..).symm.trans (congrArg immU (encodeU_of_fields rfl)))

theorem fitsImmJ_immJ (w : Word) : fitsImmJ (immJ w) = true :=
  fitsImmJ_iff.mpr ((immJ_encodeJ ..).symm.trans (congrArg immJ (encodeJ_of_fields rfl)))

/-- The bits imm[11:5] of an I-type immediate are the word's bits [31:25] (R82). -/
theorem extractLsb'_immI (w : Word) : (immI w).extractLsb' 5 7 = funct7Of w :=
  (funct7Of_encodeI ..).symm.trans (congrArg funct7Of (encodeI_of_fields rfl rfl))

end Words

/-! ## The decoder by class -/

/-- The eight values of funct3. -/
theorem funct3_cases (f3 : BitVec 3) : f3 = 0b000#3 ∨ f3 = 0b001#3 ∨ f3 = 0b010#3 ∨ f3 = 0b011#3 ∨ f3 = 0b100#3 ∨
    f3 = 0b101#3 ∨ f3 = 0b110#3 ∨ f3 = 0b111#3 := by
  revert f3; decide

/-- The rows of the class that a word's opcode names are the only ones the decoder looks at (R101, R109). -/
theorem decode_cases (w : Word) :
    (opcodeOf w = opcodeOp ∧ decode w = decodeOp ⟨w⟩) ∨
    (opcodeOf w = opcodeOpImm ∧ decode w = decodeOpImm ⟨w⟩) ∨
    (opcodeOf w = opcodeLoad ∧ decode w = decodeLoad ⟨w⟩) ∨
    (opcodeOf w = opcodeJalr ∧ decode w = decodeJalr ⟨w⟩) ∨
    (opcodeOf w = opcodeMiscMem ∧ decode w = decodeMiscMem ⟨w⟩) ∨
    (opcodeOf w = opcodeStore ∧ decode w = decodeStore ⟨w⟩) ∨
    (opcodeOf w = opcodeBranch ∧ decode w = decodeBranch ⟨w⟩) ∨
    (opcodeOf w = opcodeLui ∧ decode w = .lui (rdOf w) (immU w)) ∨
    (opcodeOf w = opcodeAuipc ∧ decode w = .auipc (rdOf w) (immU w)) ∨
    (opcodeOf w = opcodeJal ∧ decode w = .jal (rdOf w) (immJ w)) ∨
    (opcodeOf w = opcodeSystem ∧ decode w = decodeSystem w) ∨
    (opcodeOf w ∉ recognizedOpcodes ∧ decode w = .unrecognized w) := by
  by_cases hr : opcodeOf w ∈ recognizedOpcodes
  · simp only [recognizedOpcodes, List.mem_cons, List.not_mem_nil, or_false] at hr
    rcases hr with ho | ho | ho | ho | ho | ho | ho | ho | ho | ho | ho
    · simp [ho, decode_of_opcodeOp ho]
    · simp [ho, decode_of_opcodeOpImm ho]
    · simp [ho, decode_of_opcodeLoad ho]
    · simp [ho, decode_of_opcodeJalr ho]
    · simp [ho, decode_of_opcodeMiscMem ho]
    · simp [ho, decode_of_opcodeStore ho]
    · simp [ho, decode_of_opcodeBranch ho]
    · simp [ho, decode_of_opcodeLui ho]
    · simp [ho, decode_of_opcodeAuipc ho]
    · simp [ho, decode_of_opcodeJal ho]
    · simp [ho, decode_of_opcodeSystem ho]
  · simp [hr, decode_of_noClass hr]

/-! ## From an instruction to its word and back -/

/-- ECALL and EBREAK are the SYSTEM words with funct3 0 that have a row of their own. -/
theorem ne_ecall_and_ne_ebreak {w : Word} (h : funct3Of w ≠ 0b000#3) : w ≠ 0x00000073#32 ∧ w ≠ 0x00100073#32 := by
  constructor <;> rintro rfl <;> exact h (by decide)

/-- The decoder gives back a well-formed instruction from its word: its opcode leads to the rows of its class, its fixed fields to
its row, and its operands are the fields and the immediate of the word. -/
theorem decode_encode {i : Instr} (h : i.wf = true) : decode (encode i) = i := by
  cases i with
  | add | sub | sll | slt | sltu | xor | srl | sra | or | and | mul | mulh | mulhsu | mulhu | div | divu | rem | remu =>
    rw [decode_of_opcodeOp (by simp [encode])]
    simp [decodeOp, encode]
  | opOther funct7 funct3 =>
    rw [decode_of_opcodeOp (by simp [encode])]
    obtain ⟨⟨h0, h1⟩, h32⟩ : (funct7 ≠ 0b0000000#7 ∧ funct7 ≠ 0b0000001#7) ∧
        (funct7 ≠ 0b0100000#7 ∨ funct3 ≠ 0b000#3 ∧ funct3 ≠ 0b101#3) := by simpa [Instr.wf, opNamed] using h
    rcases h32 with h32 | ⟨h32, h32'⟩
    · simp [decodeOp, encode, h0, h1, h32]
    · simp [decodeOp, encode, h0, h1, h32, h32']
  | addi | slti | sltiu | xori | ori | andi =>
    rw [decode_of_opcodeOpImm (by simp [encode])]
    simp [decodeOpImm, encode, fitsImm12_iff.mp h]
  | slli | srli | srai =>
    rw [decode_of_opcodeOpImm (by simp [encode])]
    obtain ⟨himm, hupper⟩ := fitsShift_iff.mp h
    simp [decodeOpImm, encode, himm, hupper]
  | opImmOther funct3 rd rs1 imm =>
    rw [decode_of_opcodeOpImm (by simp [encode])]
    obtain ⟨himm, ⟨rfl | rfl, h0⟩, h32⟩ : (imm.extractLsb' 0 12).signExtend 32 = imm ∧
        ((funct3 = 0b001#3 ∨ funct3 = 0b101#3) ∧ imm.extractLsb' 5 7 ≠ 0b0000000#7) ∧
        (funct3 ≠ 0b101#3 ∨ imm.extractLsb' 5 7 ≠ 0b0100000#7) := by simpa [Instr.wf, opImmNamed, fitsImm12_iff] using h
    · simp [decodeOpImm, encode, himm, h0]
    · simp [decodeOpImm, encode, himm, h0, h32.resolve_left (by simp)]
  | lb | lh | lw | lbu | lhu =>
    rw [decode_of_opcodeLoad (by simp [encode])]
    simp [decodeLoad, encode, fitsImm12_iff.mp h]
  | loadReserved funct3 rd rs1 imm =>
    rw [decode_of_opcodeLoad (by simp [encode])]
    obtain ⟨himm, (rfl | rfl) | rfl⟩ : (imm.extractLsb' 0 12).signExtend 32 = imm ∧
        ((funct3 = 0b011#3 ∨ funct3 = 0b110#3) ∨ funct3 = 0b111#3) := by simpa [Instr.wf, fitsImm12_iff] using h
    all_goals simp [decodeLoad, encode, himm]
  | sb | sh | sw =>
    rw [decode_of_opcodeStore (by simp [encode])]
    simp [decodeStore, encode, fitsImm12_iff.mp h]
  | storeReserved funct3 rs1 rs2 imm =>
    rw [decode_of_opcodeStore (by simp [encode])]
    obtain ⟨himm, h3⟩ : (imm.extractLsb' 0 12).signExtend 32 = imm ∧
        (funct3 ≠ 0b000#3 ∧ funct3 ≠ 0b001#3) ∧ funct3 ≠ 0b010#3 := by simpa [Instr.wf, fitsImm12_iff] using h
    simp [decodeStore, encode, himm, h3]
  | beq | bne | blt | bge | bltu | bgeu =>
    rw [decode_of_opcodeBranch (by simp [encode])]
    simp [decodeBranch, encode, fitsImmB_iff.mp h]
  | branchReserved funct3 rs1 rs2 imm =>
    rw [decode_of_opcodeBranch (by simp [encode])]
    obtain ⟨himm, rfl | rfl⟩ : (imm.extractLsb' 1 12 ++ 0#1).signExtend 32 = imm ∧
        (funct3 = 0b010#3 ∨ funct3 = 0b011#3) := by simpa [Instr.wf, fitsImmB_iff] using h
    all_goals simp [decodeBranch, encode, himm]
  | jalr =>
    rw [decode_of_opcodeJalr (by simp [encode])]
    simp [decodeJalr, encode, fitsImm12_iff.mp h]
  | jalrReserved funct3 rd rs1 imm =>
    rw [decode_of_opcodeJalr (by simp [encode])]
    obtain ⟨himm, h3⟩ : (imm.extractLsb' 0 12).signExtend 32 = imm ∧ funct3 ≠ 0b000#3 := by
      simpa [Instr.wf, fitsImm12_iff] using h
    simp [decodeJalr, encode, himm, h3]
  | fence | fenceI =>
    rw [decode_of_opcodeMiscMem (by simp [encode])]
    simp [decodeMiscMem, encode, fitsImm12_iff.mp h]
  | miscMemOther funct3 rd rs1 imm =>
    rw [decode_of_opcodeMiscMem (by simp [encode])]
    obtain ⟨himm, h3⟩ : (imm.extractLsb' 0 12).signExtend 32 = imm ∧ funct3 ≠ 0b000#3 ∧ funct3 ≠ 0b001#3 := by
      simpa [Instr.wf, fitsImm12_iff] using h
    simp [decodeMiscMem, encode, himm, h3]
  | lui =>
    rw [decode_of_opcodeLui (by simp [encode])]
    simp [encode, fitsImmU_iff.mp h]
  | auipc =>
    rw [decode_of_opcodeAuipc (by simp [encode])]
    simp [encode, fitsImmU_iff.mp h]
  | jal =>
    rw [decode_of_opcodeJal (by simp [encode])]
    simp [encode, fitsImmJ_iff.mp h]
  | ecall | ebreak => decide
  | csrrw w | csrrs w | csrrc w | csrrwi w | csrrsi w | csrrci w =>
    obtain ⟨hop, h3⟩ := isSystemWord_iff.mp h
    rw [encode, decode_of_opcodeSystem hop]
    simp [decodeSystem, h3, ne_ecall_and_ne_ebreak (w := w) (by simp [h3])]
  | systemOther w =>
    obtain ⟨hsys, hw⟩ : (isSystemWord w 0b000#3 = true ∨ isSystemWord w 0b100#3 = true) ∧
        w ≠ 0x00000073#32 ∧ w ≠ 0x00100073#32 := by simpa [Instr.wf] using h
    rw [isSystemWord_iff, isSystemWord_iff] at hsys
    obtain ⟨hop, h3⟩ | ⟨hop, h3⟩ := hsys
    all_goals simp [encode, decode_of_opcodeSystem hop, decodeSystem, h3, hw]
  | unrecognized w =>
    have hop : opcodeOf w ∉ recognizedOpcodes := by simpa [Instr.wf] using h
    exact decode_of_noClass hop

/-- Settles O2: by cases on the instruction, each read back from its own class's rows (`decode_encode`). -/
theorem decodeOfEncodeIsTheInstruction : Obligations.DecodeOfEncodeIsTheInstruction := by
  unfold Obligations.DecodeOfEncodeIsTheInstruction
  exact fun _ h => decode_encode h

/-! ## From a word to its instruction and back -/

/-- An instruction is the reading of a word: it is well-formed, and the word is its encoding. -/
def Reads (i : Instr) (w : Word) : Prop := i.wf = true ∧ encode i = w

section Classes
variable {w : Word}

theorem decodeOp_reads (ho : opcodeOf w = opcodeOp) : Reads (decodeOp ⟨w⟩) w := by
  by_cases h0 : funct7Of w = 0b0000000#7
  · rcases funct3_cases (funct3Of w) with h3 | h3 | h3 | h3 | h3 | h3 | h3 | h3 <;>
      simp [Reads, decodeOp, h0, h3, Instr.wf, encode, encodeR_of_fields h0 h3 ho]
  by_cases h1 : funct7Of w = 0b0000001#7
  · rcases funct3_cases (funct3Of w) with h3 | h3 | h3 | h3 | h3 | h3 | h3 | h3 <;>
      simp [Reads, decodeOp, h1, h3, Instr.wf, encode, encodeR_of_fields h1 h3 ho]
  by_cases h32 : funct7Of w = 0b0100000#7
  · rcases funct3_cases (funct3Of w) with h3 | h3 | h3 | h3 | h3 | h3 | h3 | h3 <;>
      simp [Reads, decodeOp, h32, h3, Instr.wf, opNamed, encode, encodeR_of_fields h32 h3 ho]
  · simp [Reads, decodeOp, h0, h1, h32, Instr.wf, opNamed, encode, encodeR_of_fields rfl rfl ho]

theorem decodeOpImm_reads (ho : opcodeOf w = opcodeOpImm) : Reads (decodeOpImm ⟨w⟩) w := by
  by_cases h0 : funct7Of w = 0b0000000#7
  · rcases funct3_cases (funct3Of w) with h3 | h3 | h3 | h3 | h3 | h3 | h3 | h3 <;>
      simp [Reads, decodeOpImm, h0, h3, Instr.wf, fitsShift,
        encode, encodeI_of_fields h3 ho, fitsImm12_immI, extractLsb'_immI]
  by_cases h32 : funct7Of w = 0b0100000#7
  · rcases funct3_cases (funct3Of w) with h3 | h3 | h3 | h3 | h3 | h3 | h3 | h3 <;>
      simp [Reads, decodeOpImm, h32, h3, Instr.wf, opImmNamed,
        fitsShift, encode, encodeI_of_fields h3 ho, fitsImm12_immI, extractLsb'_immI]
  · rcases funct3_cases (funct3Of w) with h3 | h3 | h3 | h3 | h3 | h3 | h3 | h3 <;>
      simp [Reads, decodeOpImm, h0, h32, h3, Instr.wf, opImmNamed,
        encode, encodeI_of_fields h3 ho, fitsImm12_immI, extractLsb'_immI]

theorem decodeLoad_reads (ho : opcodeOf w = opcodeLoad) : Reads (decodeLoad ⟨w⟩) w := by
  rcases funct3_cases (funct3Of w) with h3 | h3 | h3 | h3 | h3 | h3 | h3 | h3 <;>
    simp [Reads, decodeLoad, h3, Instr.wf, encode, encodeI_of_fields h3 ho, fitsImm12_immI]

theorem decodeJalr_reads (ho : opcodeOf w = opcodeJalr) : Reads (decodeJalr ⟨w⟩) w := by
  rcases funct3_cases (funct3Of w) with h3 | h3 | h3 | h3 | h3 | h3 | h3 | h3 <;>
    simp [Reads, decodeJalr, h3, Instr.wf, encode, encodeI_of_fields h3 ho, fitsImm12_immI]

theorem decodeMiscMem_reads (ho : opcodeOf w = opcodeMiscMem) : Reads (decodeMiscMem ⟨w⟩) w := by
  rcases funct3_cases (funct3Of w) with h3 | h3 | h3 | h3 | h3 | h3 | h3 | h3 <;>
    simp [Reads, decodeMiscMem, h3, Instr.wf, encode, encodeI_of_fields h3 ho, fitsImm12_immI]

theorem decodeStore_reads (ho : opcodeOf w = opcodeStore) : Reads (decodeStore ⟨w⟩) w := by
  rcases funct3_cases (funct3Of w) with h3 | h3 | h3 | h3 | h3 | h3 | h3 | h3 <;>
    simp [Reads, decodeStore, h3, Instr.wf, encode, encodeS_of_fields h3 ho, fitsImm12_immS]

theorem decodeBranch_reads (ho : opcodeOf w = opcodeBranch) : Reads (decodeBranch ⟨w⟩) w := by
  rcases funct3_cases (funct3Of w) with h3 | h3 | h3 | h3 | h3 | h3 | h3 | h3 <;>
    simp [Reads, decodeBranch, h3, Instr.wf, encode, encodeB_of_fields h3 ho, fitsImmB_immB]

theorem decodeSystem_reads (ho : opcodeOf w = opcodeSystem) : Reads (decodeSystem w) w := by
  by_cases hcall : w = 0x00000073#32
  · simp [Reads, decodeSystem, hcall, Instr.wf, encode]
  by_cases hbreak : w = 0x00100073#32
  · simp [Reads, decodeSystem, hbreak, Instr.wf, encode]
  rcases funct3_cases (funct3Of w) with h3 | h3 | h3 | h3 | h3 | h3 | h3 | h3 <;>
    simp [Reads, decodeSystem, hcall, hbreak, h3, Instr.wf, isSystemWord, encode, ho]

end Classes

/-- Every word is read without loss: no class of words has a row that drops a bit (R88). -/
theorem decode_reads (w : Word) : Reads (decode w) w := by
  rcases decode_cases w with ⟨ho, hd⟩ | ⟨ho, hd⟩ | ⟨ho, hd⟩ | ⟨ho, hd⟩ | ⟨ho, hd⟩ | ⟨ho, hd⟩ | ⟨ho, hd⟩ | ⟨ho, hd⟩ | ⟨ho, hd⟩ |
    ⟨ho, hd⟩ | ⟨ho, hd⟩ | ⟨ho, hd⟩ <;> rw [hd]
  · exact decodeOp_reads ho
  · exact decodeOpImm_reads ho
  · exact decodeLoad_reads ho
  · exact decodeJalr_reads ho
  · exact decodeMiscMem_reads ho
  · exact decodeStore_reads ho
  · exact decodeBranch_reads ho
  · exact ⟨fitsImmU_immU w, encodeU_of_fields ho⟩
  · exact ⟨fitsImmU_immU w, encodeU_of_fields ho⟩
  · exact ⟨fitsImmJ_immJ w, encodeJ_of_fields ho⟩
  · exact decodeSystem_reads ho
  · exact ⟨by simp [Instr.wf, ho], rfl⟩

/-- Settles O3: by cases on the class of the word's opcode, and in it on the fields that tell its rows apart (`decode_reads`). -/
theorem encodeOfDecodeIsTheWord : Obligations.EncodeOfDecodeIsTheWord := by
  unfold Obligations.EncodeOfDecodeIsTheWord
  exact decode_reads

end Sys2Proof.Encoding

/-! The decoder and the opcode table (30_encoding.md R109): the first row that takes a word is named as the decoder's instruction. The
rows test opcode, funct3 and funct7 (only ECALL and EBREAK test more), so which row comes first is found once for each value of these
fields, on the word that has them and no other bit. -/

namespace Sys2Proof.Encoding

/-- A row's mask and pattern, looked at in the opcode's place only. -/
def takesOpcode (op : BitVec 7) (r : TableRow) : Bool := op &&& opcodeOf r.mask == opcodeOf r.pattern

/-- The rows for an opcode whose mask tests no bit outside `m`. -/
def rowsFor (op : BitVec 7) (m : Word) : List TableRow :=
  opcodeTable.filter fun r => takesOpcode op r && m &&& r.mask == r.mask

theorem opcodeOf_and (v w : Word) : opcodeOf (v &&& w) = opcodeOf v &&& opcodeOf w := BitVec.extractLsb'_and
theorem funct7Of_and (v w : Word) : funct7Of (v &&& w) = funct7Of v &&& funct7Of w := BitVec.extractLsb'_and

variable {w : Word}

/-- A row that takes a word takes its opcode. -/
theorem takesOpcode_of_takes {r : TableRow} (h : r.takes w = true) : takesOpcode (opcodeOf w) r = true := by
  rw [TableRow.takes, beq_iff_eq] at h
  rw [takesOpcode, ← h, opcodeOf_and, beq_self_eq_true]

/-- The first row for a word stands among the rows for its opcode, and where no row that tests more than the bits of `m` takes the
word, the bits of `m` decide which it is. -/
theorem firstRow_eq {op : BitVec 7} {m v : Word} (ho : opcodeOf w = op) (hv : w &&& m = v)
    (hm : ∀ r ∈ opcodeTable, takesOpcode op r = true → r.takes w = true → m &&& r.mask = r.mask) :
    firstRow w = (rowsFor op m).find? (·.takes v) := by
  subst ho hv
  rw [firstRow, rowsFor, List.find?_filter]
  refine List.find?_congr fun r hr => ?_
  have hv : m &&& r.mask = r.mask → r.takes (w &&& m) = r.takes w := fun hin => by
    rw [TableRow.takes, BitVec.and_assoc, hin, TableRow.takes]
  by_cases ht : r.takes w = true
  · have ho := takesOpcode_of_takes ht
    have hin := hm r hr ho ht
    simp [ht, ho, hin, hv]
  · by_cases hin : m &&& r.mask = r.mask
    · simp [ht, hv hin]
    · simp [ht, hin]

/-- The first row for a word has the mnemonic of this instruction. -/
def Names (w : Word) (i : Instr) : Prop := (firstRow w).map TableRow.mnemonic = some i.mnemonic

/-- Where the opcode alone decides, the row is that of the word with this opcode and no other bit. -/
theorem firstRow_of_opcode {op : BitVec 7} (ho : opcodeOf w = op)
    (hm : ∀ r ∈ opcodeTable, takesOpcode op r = true → r.takes w = true → 0x0000007F#32 &&& r.mask = r.mask) :
    firstRow w = (rowsFor op 0x0000007F#32).find? (·.takes (encodeR 0#7 0#5 0#5 0#3 0#5 op)) :=
  firstRow_eq ho ((maskOpcode_iff w op).mpr ho) hm

/-- Where opcode and funct3 decide, the row is that of the word with those two fields and no other bit. -/
theorem firstRow_of_funct3 {op : BitVec 7} {f3 : BitVec 3} (ho : opcodeOf w = op) (h3 : funct3Of w = f3)
    (hm : ∀ r ∈ opcodeTable, takesOpcode op r = true → r.takes w = true → 0x0000707F#32 &&& r.mask = r.mask) :
    firstRow w = (rowsFor op 0x0000707F#32).find? (·.takes (encodeR 0#7 0#5 0#5 f3 0#5 op)) :=
  firstRow_eq ho ((maskFunct3_iff w f3 op).mpr ⟨h3, ho⟩) hm

/-- Where funct7 decides too, the row is that of the word with those three fields and no other bit. -/
theorem firstRow_of_funct7 {op f7 : BitVec 7} {f3 : BitVec 3} (ho : opcodeOf w = op) (h3 : funct3Of w = f3) (h7 : funct7Of w = f7)
    (hm : ∀ r ∈ opcodeTable, takesOpcode op r = true → 0xFE00707F#32 &&& r.mask = r.mask) :
    firstRow w = (rowsFor op 0xFE00707F#32).find? (·.takes (encodeR f7 0#5 0#5 f3 0#5 op)) :=
  firstRow_eq ho ((maskFunct7_iff w f7 f3 op).mpr ⟨h7, h3, ho⟩) fun r hr ht _ => hm r hr ht

/-- A row that tests all of funct7 takes only words with its own. -/
theorem funct7Of_of_takes {r : TableRow} (hm : funct7Of r.mask = 0x7F#7) (h : r.takes w = true) :
    funct7Of w = funct7Of r.pattern := by
  rw [TableRow.takes, beq_iff_eq] at h
  rw [← h, funct7Of_and, hm, allOnes7_and]

/-- Where the rows that test more than the bits of `m` all test funct7, they take no word whose funct7 is none of theirs. -/
theorem mask_within_of_funct7_notMem {op : BitVec 7} {m : Word} {named : List (BitVec 7)}
    (hnamed : ∀ r ∈ opcodeTable, takesOpcode op r = true → m &&& r.mask ≠ r.mask →
      funct7Of r.mask = 0x7F#7 ∧ funct7Of r.pattern ∈ named) (h7 : funct7Of w ∉ named) :
    ∀ r ∈ opcodeTable, takesOpcode op r = true → r.takes w = true → m &&& r.mask = r.mask := by
  intro r hr ho ht
  by_contra hin
  obtain ⟨hmask, hpat⟩ := hnamed r hr ho hin
  exact h7 (funct7Of_of_takes hmask ht ▸ hpat)

theorem names_of_opcodeOp (ho : opcodeOf w = opcodeOp) : Names w (decodeOp ⟨w⟩) := by
  have hm : ∀ r ∈ opcodeTable, takesOpcode opcodeOp r = true → 0xFE00707F#32 &&& r.mask = r.mask := by decide
  have hnamed : ∀ r ∈ opcodeTable, takesOpcode opcodeOp r = true → 0x0000007F#32 &&& r.mask ≠ r.mask →
      funct7Of r.mask = 0x7F#7 ∧ funct7Of r.pattern ∈ [0b0000000#7, 0b0000001#7, 0b0100000#7] := by decide
  by_cases h7 : funct7Of w ∈ [0b0000000#7, 0b0000001#7, 0b0100000#7]
  · simp only [List.mem_cons, List.not_mem_nil, or_false] at h7
    rcases h7 with h7 | h7 | h7 <;>
      rcases funct3_cases (funct3Of w) with h3 | h3 | h3 | h3 | h3 | h3 | h3 | h3 <;>
        · rw [Names, firstRow_of_funct7 ho h3 h7 hm, decodeOp, rWord_funct7, rWord_funct3, h3, h7]
          rfl
  · have hout := mask_within_of_funct7_notMem hnamed h7
    simp only [List.mem_cons, List.not_mem_nil, or_false, not_or] at h7
    have hd : decodeOp ⟨w⟩ = .opOther (funct7Of w) (funct3Of w) (rdOf w) (rs1Of w) (rs2Of w) := by simp [decodeOp, h7]
    rw [Names, firstRow_of_opcode ho hout, hd]
    rfl

theorem names_of_opcodeOpImm (ho : opcodeOf w = opcodeOpImm) : Names w (decodeOpImm ⟨w⟩) := by
  have hm : ∀ r ∈ opcodeTable, takesOpcode opcodeOpImm r = true → 0xFE00707F#32 &&& r.mask = r.mask := by decide
  have hshift : ∀ r ∈ opcodeTable, takesOpcode opcodeOpImm r = true → 0x0000707F#32 &&& r.mask ≠ r.mask →
      funct7Of r.mask = 0x7F#7 ∧ funct7Of r.pattern ∈ [0b0000000#7, 0b0100000#7] := by decide
  by_cases h7 : funct7Of w ∈ [0b0000000#7, 0b0100000#7]
  · simp only [List.mem_cons, List.not_mem_nil, or_false] at h7
    rcases h7 with h7 | h7 <;>
      rcases funct3_cases (funct3Of w) with h3 | h3 | h3 | h3 | h3 | h3 | h3 | h3 <;>
        · rw [Names, firstRow_of_funct7 ho h3 h7 hm, decodeOpImm, iWord_funct3, iWord_imm, extractLsb'_immI, h3, h7]
          rfl
  · have hout := mask_within_of_funct7_notMem hshift h7
    simp only [List.mem_cons, List.not_mem_nil, or_false, not_or] at h7
    rcases funct3_cases (funct3Of w) with h3 | h3 | h3 | h3 | h3 | h3 | h3 | h3 <;>
      · rw [Names, firstRow_of_funct3 ho h3 hout]
        simp only [decodeOpImm, iWord_funct3, iWord_imm, extractLsb'_immI, h3, h7, and_false, if_false]
        rfl

theorem names_of_opcodeLoad (ho : opcodeOf w = opcodeLoad) : Names w (decodeLoad ⟨w⟩) := by
  have hm : ∀ r ∈ opcodeTable, takesOpcode opcodeLoad r = true → 0x0000707F#32 &&& r.mask = r.mask := by decide
  rcases funct3_cases (funct3Of w) with h3 | h3 | h3 | h3 | h3 | h3 | h3 | h3 <;>
    · rw [Names, firstRow_of_funct3 ho h3 fun r hr ht _ => hm r hr ht, decodeLoad, iWord_funct3, h3]
      rfl

theorem names_of_opcodeJalr (ho : opcodeOf w = opcodeJalr) : Names w (decodeJalr ⟨w⟩) := by
  have hm : ∀ r ∈ opcodeTable, takesOpcode opcodeJalr r = true → 0x0000707F#32 &&& r.mask = r.mask := by decide
  rcases funct3_cases (funct3Of w) with h3 | h3 | h3 | h3 | h3 | h3 | h3 | h3 <;>
    · rw [Names, firstRow_of_funct3 ho h3 fun r hr ht _ => hm r hr ht, decodeJalr, iWord_funct3, h3]
      rfl

theorem names_of_opcodeMiscMem (ho : opcodeOf w = opcodeMiscMem) : Names w (decodeMiscMem ⟨w⟩) := by
  have hm : ∀ r ∈ opcodeTable, takesOpcode opcodeMiscMem r = true → 0x0000707F#32 &&& r.mask = r.mask := by decide
  rcases funct3_cases (funct3Of w) with h3 | h3 | h3 | h3 | h3 | h3 | h3 | h3 <;>
    · rw [Names, firstRow_of_funct3 ho h3 fun r hr ht _ => hm r hr ht, decodeMiscMem, iWord_funct3, h3]
      rfl

theorem names_of_opcodeStore (ho : opcodeOf w = opcodeStore) : Names w (decodeStore ⟨w⟩) := by
  have hm : ∀ r ∈ opcodeTable, takesOpcode opcodeStore r = true → 0x0000707F#32 &&& r.mask = r.mask := by decide
  rcases funct3_cases (funct3Of w) with h3 | h3 | h3 | h3 | h3 | h3 | h3 | h3 <;>
    · rw [Names, firstRow_of_funct3 ho h3 fun r hr ht _ => hm r hr ht, decodeStore, sWord_funct3, h3]
      rfl

theorem names_of_opcodeBranch (ho : opcodeOf w = opcodeBranch) : Names w (decodeBranch ⟨w⟩) := by
  have hm : ∀ r ∈ opcodeTable, takesOpcode opcodeBranch r = true → 0x0000707F#32 &&& r.mask = r.mask := by decide
  rcases funct3_cases (funct3Of w) with h3 | h3 | h3 | h3 | h3 | h3 | h3 | h3 <;>
    · rw [Names, firstRow_of_funct3 ho h3 fun r hr ht _ => hm r hr ht, decodeBranch, bWord_funct3, h3]
      rfl

theorem names_of_opcodeLui (ho : opcodeOf w = opcodeLui) : Names w (.lui (rdOf w) (immU w)) := by
  have hm : ∀ r ∈ opcodeTable, takesOpcode opcodeLui r = true → 0x0000007F#32 &&& r.mask = r.mask := by decide
  rw [Names, firstRow_of_opcode ho fun r hr ht _ => hm r hr ht]
  rfl

theorem names_of_opcodeAuipc (ho : opcodeOf w = opcodeAuipc) : Names w (.auipc (rdOf w) (immU w)) := by
  have hm : ∀ r ∈ opcodeTable, takesOpcode opcodeAuipc r = true → 0x0000007F#32 &&& r.mask = r.mask := by decide
  rw [Names, firstRow_of_opcode ho fun r hr ht _ => hm r hr ht]
  rfl

theorem names_of_opcodeJal (ho : opcodeOf w = opcodeJal) : Names w (.jal (rdOf w) (immJ w)) := by
  have hm : ∀ r ∈ opcodeTable, takesOpcode opcodeJal r = true → 0x0000007F#32 &&& r.mask = r.mask := by decide
  rw [Names, firstRow_of_opcode ho fun r hr ht _ => hm r hr ht]
  rfl

theorem names_of_opcodeSystem (ho : opcodeOf w = opcodeSystem) : Names w (decodeSystem w) := by
  by_cases hcall : w = 0x00000073#32
  · rw [hcall]
    rfl
  by_cases hbreak : w = 0x00100073#32
  · rw [hbreak]
    rfl
  have hwhole : ∀ r ∈ opcodeTable, takesOpcode opcodeSystem r = true → 0x0000707F#32 &&& r.mask ≠ r.mask →
      r.mask = BitVec.allOnes 32 ∧ (r.pattern = 0x00000073#32 ∨ r.pattern = 0x00100073#32) := by decide
  have hout : ∀ r ∈ opcodeTable, takesOpcode opcodeSystem r = true → r.takes w = true → 0x0000707F#32 &&& r.mask = r.mask := by
    intro r hr ho ht
    by_contra hin
    obtain ⟨hmask, hpat⟩ := hwhole r hr ho hin
    rw [TableRow.takes, hmask, BitVec.and_allOnes, beq_iff_eq] at ht
    exact hpat.elim (fun h => hcall (ht.trans h)) fun h => hbreak (ht.trans h)
  rcases funct3_cases (funct3Of w) with h3 | h3 | h3 | h3 | h3 | h3 | h3 | h3 <;>
    · rw [Names, firstRow_of_funct3 ho h3 hout, decodeSystem, if_neg hcall, if_neg hbreak, h3]
      rfl

/-- Every row but the last takes words of a recognized opcode only (R101). -/
theorem names_of_noClass (ho : opcodeOf w ∉ recognizedOpcodes) : Names w (.unrecognized w) := by
  have hop : ∀ r ∈ opRows ++ opImmRows ++ upperRows ++ loadStoreRows ++ controlRows ++ systemRows,
      opcodeOf r.mask = 0x7F#7 ∧ opcodeOf r.pattern ∈ recognizedOpcodes := by decide
  rw [Names, firstRow, opcodeTable, List.find?_append, List.find?_eq_none.mpr]
  · simp [unrecognizedRows, TableRow.takes, Instr.mnemonic]
  · intro r hr ht
    obtain ⟨hmask, hpat⟩ := hop r hr
    have hopcode := takesOpcode_of_takes ht
    rw [takesOpcode, hmask, allOnes7_and, beq_iff_eq] at hopcode
    exact ho (hopcode ▸ hpat)

theorem decode_names (w : Word) : Names w (decode w) := by
  rcases decode_cases w with ⟨ho, hd⟩ | ⟨ho, hd⟩ | ⟨ho, hd⟩ | ⟨ho, hd⟩ | ⟨ho, hd⟩ | ⟨ho, hd⟩ | ⟨ho, hd⟩ | ⟨ho, hd⟩ | ⟨ho, hd⟩ |
    ⟨ho, hd⟩ | ⟨ho, hd⟩ | ⟨ho, hd⟩ <;> rw [hd]
  · exact names_of_opcodeOp ho
  · exact names_of_opcodeOpImm ho
  · exact names_of_opcodeLoad ho
  · exact names_of_opcodeJalr ho
  · exact names_of_opcodeMiscMem ho
  · exact names_of_opcodeStore ho
  · exact names_of_opcodeBranch ho
  · exact names_of_opcodeLui ho
  · exact names_of_opcodeAuipc ho
  · exact names_of_opcodeJal ho
  · exact names_of_opcodeSystem ho
  · exact names_of_noClass ho

/-- Settles O4: by cases on the class of the word's opcode; in each class the fields that its rows test decide the row. -/
theorem decoderFollowsTheOpcodeTable : Obligations.DecoderFollowsTheOpcodeTable := by
  unfold Obligations.DecoderFollowsTheOpcodeTable
  exact decode_names

end Sys2Proof.Encoding

/-! The classifier looks at the opcode only (30_encoding.md R100 to R105), the ranges of the immediates (R89 to R93), and the spec's
own example words. -/

namespace Sys2Proof.Encoding

/-! ## The classifier by opcode -/

/-- The tag is a function of the opcode: no other bit of the word is tested. -/
theorem classify_tag_congr {v w : Word} (h : opcodeOf v = opcodeOf w) : (classify v).tag = (classify w).tag := by
  simp only [classify, apply_ite Decoded.tag]
  simp only [Decoded.tag, h]

/-- The value carries the word itself (R105). -/
theorem classify_word (w : Word) : (classify w).word = w := by
  simp only [classify, apply_ite Decoded.word]
  simp only [Decoded.word, ite_self]

/-- A word with none of the eleven opcodes gets no format (R102). -/
theorem classify_of_noClass {w : Word} (h : opcodeOf w ∉ recognizedOpcodes) : classify w = .unrecognized w := by
  simp only [recognizedOpcodes, List.mem_cons, List.not_mem_nil, or_false, not_or] at h
  simp only [classify, h, if_false]

/-- Settles O5: the classifier's tests are on the opcode (`classify_tag_congr`), and one that fails them all is unrecognized. -/
theorem classifierReadsTheOpcodeOnly : Obligations.ClassifierReadsTheOpcodeOnly := by
  unfold Obligations.ClassifierReadsTheOpcodeOnly
  refine ⟨fun _ _ => classify_tag_congr, fun w h => ?_, fun w h => ?_, fun _ => classify_of_noClass, classify_word⟩
  · rw [classify, if_pos h]
  · rw [classify, h]
    rfl

/-- Settles O6: the format of each opcode is what the classifier computes of it, and the count is taken over all 128 opcodes. -/
theorem elevenOpcodesAreRecognized : Obligations.ElevenOpcodesAreRecognized := by
  unfold Obligations.ElevenOpcodesAreRecognized
  refine ⟨fun w => ?_, fun _ => classify_of_noClass, by rfl⟩
  simp only [List.mem_cons, List.not_mem_nil, or_false]
  refine ⟨fun h => ?_, fun h => ?_, fun h => ?_, fun h => ?_, fun h => ?_, fun h => ?_, fun h => ?_⟩
  case refine_2 => rcases h with h | h | h | h <;> (rw [classify, h]; rfl)
  case refine_5 => rcases h with h | h <;> (rw [classify, h]; rfl)
  all_goals
    rw [classify, h]
    rfl

/-! ## The ranges of the immediates -/

/-- A zero bit below a value doubles its signed value. -/
theorem toInt_append_zero {n : Nat} (x : BitVec n) : (x ++ 0#1).toInt = 2 * x.toInt := by
  have hnat : (x ++ 0#1).toNat = 2 * x.toNat := by
    rw [BitVec.toNat_append, BitVec.toNat_ofNat, Nat.zero_mod, Nat.or_zero, Nat.shiftLeft_eq, Nat.pow_one, Nat.mul_comm]
  have hpow : 2 ^ (n + 1) = 2 * 2 ^ n := Nat.pow_succ'
  rw [BitVec.toInt_eq_toNat_cond, BitVec.toInt_eq_toNat_cond, hnat, hpow]
  push_cast
  split_ifs <;> omega

/-- The signed value of a 12-bit field is within -2048 to 2047. -/
theorem toInt_signExtend12 (x : BitVec 12) : -2048 ≤ (x.signExtend 32).toInt ∧ (x.signExtend 32).toInt ≤ 2047 := by
  have hlow := x.le_two_mul_toInt
  have hhigh := x.two_mul_toInt_lt
  rw [BitVec.toInt_signExtend_of_le (by omega)]
  omega

/-- An offset, `n` bits above a zero bit, is even and within the range of its `n + 1` bits. -/
theorem toInt_signExtend_offset {n : Nat} (x : BitVec n) (hpos : 0 < n) (hn : n + 1 ≤ 32) :
    -2 ^ n ≤ ((x ++ 0#1).signExtend 32).toInt ∧ ((x ++ 0#1).signExtend 32).toInt ≤ 2 ^ n - 2 ∧
      ((x ++ 0#1).signExtend 32).toInt % 2 = 0 := by
  have hlow := x.le_two_mul_toInt
  have hhigh := x.two_mul_toInt_lt
  rw [BitVec.toInt_signExtend_of_le hn, toInt_append_zero]
  have hpow : (2 : Int) ^ n = 2 * 2 ^ (n - 1) := by rw [← pow_succ', Nat.sub_add_cancel hpos]
  omega

/-- Settles O7: a signed immediate has the value of its field, doubled for an offset; the U immediate's range is O8's. -/
theorem immediatesStayInTheirRanges : Obligations.ImmediatesStayInTheirRanges := by
  unfold Obligations.ImmediatesStayInTheirRanges
  intro w
  refine ⟨toInt_signExtend12 _, toInt_signExtend12 _, ?_, ?_, ?_⟩
  · exact toInt_signExtend_offset _ (by omega) (by omega)
  · exact toInt_signExtend_offset _ (by omega) (by omega)
  · obtain ⟨-, -, hmultiple, hmax⟩ := upperImmediateIsTheMaskedWord w
    exact ⟨hmax, hmultiple⟩

/-- Settles O1: each word is decoded by computation. -/
theorem knownWordsDecode : Obligations.KnownWordsDecode := by
  unfold Obligations.KnownWordsDecode
  decide

end Sys2Proof.Encoding

/-! The execute stage and the step on the fetched word (40_step_sequencer.md R121 to R132): an ADD, a word of no class, or a
recognized word without semantics. -/

namespace Sys2Proof.Machine

/-! ## The execute stage -/

/-- Everything the execute stage does with a decoded word, by what the word is; the word reported is the word decoded. -/
theorem exec_decode_cases (w : Word) (s : State) :
    (IsAddWord w ∧ exec (decode w) s =
      .next ((s.writeReg (rdOf w) (aluAdd (s.readReg (rs1Of w)) (s.readReg (rs2Of w)))).retire .ok)) ∨
    (¬ Recognized w ∧ exec (decode w) s = .next (s.retire (.unrecognizedOpcode w))) ∨
    (Recognized w ∧ ¬ IsAddWord w ∧ exec (decode w) s = .next (s.retire (.unimplementedInstruction w))) := by
  by_cases hadd : IsAddWord w
  · exact .inl ⟨hadd, by rw [decode_of_addWord hadd, exec_add]⟩
  by_cases hrec : Recognized w
  · rcases exec_cases (decode w) s with ⟨_, _, _, hd, -⟩ | ⟨_, hd, -⟩ | ⟨-, -, he⟩
    · exact absurd (addWord_of_decode hd) hadd
    · exact absurd hrec (decode_eq_unrecognized hd).2
    · obtain ⟨-, hword⟩ := Encoding.decode_reads w
      exact .inr (.inr ⟨hrec, hadd, by rw [he, hword]⟩)
  · exact .inr (.inl ⟨hrec, by rw [decode_of_noClass hrec]; rfl⟩)

/-- Every instruction answers a next state with the pc advanced, and keeps all but the pc, the status and the rd of an ADD. -/
theorem exec_completes (i : Instr) (s : State) :
    ∃ t, exec i s = .next t ∧ t.pc = s.pc + 4#32 ∧ t.phase = s.phase ∧ t.config = s.config ∧ t.mem = s.mem ∧
      ∀ r : RegIdx, (∀ rs1 rs2, i ≠ .add r rs1 rs2) → t.readReg r = s.readReg r := by
  rcases exec_cases i s with ⟨rd, rs1, rs2, rfl, he⟩ | ⟨_, -, he⟩ | ⟨-, -, he⟩
  · refine ⟨_, he, by simp, by simp, by simp, by simp, fun r hr => ?_⟩
    have hne : r ≠ rd := by
      rintro rfl
      exact hr rs1 rs2 rfl
    simp [State.readReg_writeReg, hne]
  · exact ⟨_, he, by simp⟩
  · exact ⟨_, he, by simp⟩

/-- Settles O44: the frame of all three outcomes of the execute stage. -/
theorem everyInstructionCompletesWithItsFrame : Obligations.EveryInstructionCompletesWithItsFrame := by
  unfold Obligations.EveryInstructionCompletesWithItsFrame
  intro i s
  obtain ⟨t, he, hpc, hphase, hconfig, hmem, hreg⟩ := exec_completes i s
  exact ⟨t, he, hpc, hphase, hconfig, fun a => by rw [hmem], hreg⟩

/-- ADD's next state: the sum in rd unless that is x0, and nothing else but the pc and the status (R140). -/
theorem add_result {rd rs1 rs2 : RegIdx} {s t : State}
    (h : t = (s.writeReg rd (aluAdd (s.readReg rs1) (s.readReg rs2))).retire .ok) :
    t.status = .ok ∧ t.pc = s.pc + 4#32 ∧
    (∀ r : RegIdx, t.readReg r = if r = rd ∧ r ≠ 0#5 then s.readReg rs1 + s.readReg rs2 else s.readReg r) ∧
    (∀ a : Nat, t.mem.read a = s.mem.read a) ∧ t.phase = s.phase ∧ t.config = s.config := by
  subst h
  simp [State.readReg_writeReg, aluAdd]

/-- Settles O34: `exec_add` gives ADD's next state, and `add_result` reads it. -/
theorem addResultAndFrame : Obligations.AddResultAndFrame := by
  unfold Obligations.AddResultAndFrame
  intro s rd rs1 rs2
  exact ⟨_, exec_add rd rs1 rs2 s, add_result rfl⟩

/-- The execute stage as R125 writes it does nothing with a recognized word that is not ADD but report it. -/
theorem execute_of_notAdd {w : Word} (hrec : Recognized w) (hadd : ¬ IsAddWord w) (s : State) :
    execute (classify w) s = (s, .unimplementedInstruction w) := by
  rw [IsAddWord, addMask_iff] at hadd
  simp only [Recognized, recognizedOpcodes, List.mem_cons, List.not_mem_nil, or_false] at hrec
  rcases hrec with ho | hrec
  · have hcond : ¬ (opcodeOf w = opcodeOp ∧ funct3Of w = 0b000#3 ∧ funct7Of w = 0b0000000#7) :=
      fun ⟨h, h3, h7⟩ => hadd ⟨h7, h3, h⟩
    rw [classify, if_pos ho]
    exact if_neg hcond
  · rcases hrec with ho | ho | ho | ho | ho | ho | ho | ho | ho | ho <;>
      · rw [classify, ho]
        rfl

/-- Settles O51: the two agree on each kind of word: ADD, no class, and recognized without semantics. -/
theorem execAgreesWithTheSpecsExecuteStage : Obligations.ExecAgreesWithTheSpecsExecuteStage := by
  unfold Obligations.ExecAgreesWithTheSpecsExecuteStage
  intro w s
  rcases exec_decode_cases w s with ⟨hadd, he⟩ | ⟨hrec, he⟩ | ⟨hrec, hadd, he⟩
  · obtain ⟨h7, h3, ho⟩ := (addMask_iff w).mp hadd
    have hexec : execute (classify w) s =
        (s.writeReg (rdOf w) (aluAdd (s.readReg (rs1Of w)) (s.readReg (rs2Of w))), .ok) := by
      rw [classify, if_pos ho]
      exact if_pos ⟨ho, h3, h7⟩
    rw [he, hexec]
  · rw [he, Encoding.classify_of_noClass hrec]
    rfl
  · rw [he, execute_of_notAdd hrec hadd]

/-! ## The instructions without semantics, family by family (R126, R141 to R181) -/

/-- The instructions without semantics: all but ADD, and but the one of no class, which has a status of its own. -/
def hasNoSemantics : Instr → Bool
  | .add _ _ _ => false
  | .unrecognized _ => false
  | _ => true

/-- An instruction without semantics reports its word, and only the pc advances. -/
theorem exec_of_hasNoSemantics {i : Instr} (h : hasNoSemantics i = true) (s : State) :
    exec i s = .next { s with pc := s.pc + 4#32, status := .unimplementedInstruction (encode i) } := by
  rcases exec_cases i s with ⟨_, _, _, rfl, -⟩ | ⟨_, rfl, -⟩ | ⟨-, -, he⟩
  · cases h
  · cases h
  · exact he

/-- So does each instruction of a family of them. -/
theorem exec_of_mem_family {family : List Instr} (hfamily : family.all hasNoSemantics = true) {i : Instr} (hi : i ∈ family)
    (s : State) : exec i s = .next { s with pc := s.pc + 4#32, status := .unimplementedInstruction (encode i) } :=
  exec_of_hasNoSemantics (List.all_eq_true.mp hfamily i hi) s

/-- Settles O36: no instruction of the family has semantics. -/
theorem opWordsReportAndAdvance : Obligations.OpWordsReportAndAdvance := by
  unfold Obligations.OpWordsReportAndAdvance
  intro s _ _ _ _ _ i hi
  exact exec_of_mem_family rfl hi s

/-- Settles O37: no instruction of the family has semantics. -/
theorem opImmWordsReportAndAdvance : Obligations.OpImmWordsReportAndAdvance := by
  unfold Obligations.OpImmWordsReportAndAdvance
  intro s _ _ _ _ i hi
  exact exec_of_mem_family rfl hi s

/-- Settles O38: no instruction of the family has semantics. -/
theorem upperImmediateWordsReportAndAdvance : Obligations.UpperImmediateWordsReportAndAdvance := by
  unfold Obligations.UpperImmediateWordsReportAndAdvance
  intro s _ _ i hi
  exact exec_of_mem_family rfl hi s

/-- Settles O39: no instruction of the family has semantics. -/
theorem loadAndStoreWordsReportAndAdvance : Obligations.LoadAndStoreWordsReportAndAdvance := by
  unfold Obligations.LoadAndStoreWordsReportAndAdvance
  intro s _ _ _ _ _ i hi
  exact exec_of_mem_family rfl hi s

/-- Settles O40: no instruction of the family has semantics. -/
theorem controlTransferWordsReportAndAdvance : Obligations.ControlTransferWordsReportAndAdvance := by
  unfold Obligations.ControlTransferWordsReportAndAdvance
  intro s _ _ _ _ _ i hi
  exact exec_of_mem_family rfl hi s

/-- Settles O41: no instruction of the family has semantics. -/
theorem systemAndFenceWordsReportAndAdvance : Obligations.SystemAndFenceWordsReportAndAdvance := by
  unfold Obligations.SystemAndFenceWordsReportAndAdvance
  intro s _ _ _ _ _ i hi
  exact exec_of_mem_family rfl hi s

/-- Settles O42: the third outcome of the execute stage, by definition. -/
theorem unrecognizedInstructionReportsAndAdvances : Obligations.UnrecognizedInstructionReportsAndAdvances := by
  unfold Obligations.UnrecognizedInstructionReportsAndAdvances
  exact fun _ _ => rfl

/-! ## The step on the fetched word -/

/-- Everything a step that answers can do, by what was fetched. -/
theorem step_answer_cases {s t : State} (h : step s = .next t) :
    (s.config.memCapacity < s.pc.toNat + 4 ∧ t = s.returns (.memoryFault s.pc)) ∨
    s.pc.toNat + 4 ≤ s.config.memCapacity ∧ ∃ w, fetch s = .ok w ∧
      ((IsAddWord w ∧ t = (s.writeReg (rdOf w) (aluAdd (s.readReg (rs1Of w)) (s.readReg (rs2Of w)))).retire .ok) ∨
      (¬ Recognized w ∧ t = s.retire (.unrecognizedOpcode w)) ∨
      (Recognized w ∧ ¬ IsAddWord w ∧ t = s.retire (.unimplementedInstruction w))) := by
  rcases step_cases s with ⟨-, hs⟩ | ⟨-, hout, hs⟩ | ⟨-, hin, w, hf, hs⟩
  · cases hs.symm.trans h
  · cases hs.symm.trans h
    exact .inl ⟨hout, rfl⟩
  · refine .inr ⟨hin, w, hf, ?_⟩
    rcases exec_decode_cases w s with ⟨hadd, he⟩ | ⟨hrec, he⟩ | ⟨hrec, hadd, he⟩
    · cases he.symm.trans (hs.symm.trans h)
      exact .inl ⟨hadd, rfl⟩
    · cases he.symm.trans (hs.symm.trans h)
      exact .inr (.inl ⟨hrec, rfl⟩)
    · cases he.symm.trans (hs.symm.trans h)
      exact .inr (.inr ⟨hrec, hadd, rfl⟩)

/-- A step that answers keeps memory: no instruction stores (R160, R161). -/
theorem step_mem {s t : State} (h : step s = .next t) : t.mem = s.mem := by
  rcases step_answer_cases h with ⟨-, rfl⟩ | ⟨-, _, -, ⟨-, rfl⟩ | ⟨-, rfl⟩ | ⟨-, -, rfl⟩⟩ <;> simp

/-- A step that answers began in phase Running (R122). -/
theorem phase_of_step {s t : State} (h : step s = .next t) : s.phase = .running := by
  rcases step_cases s with ⟨-, hs⟩ | ⟨hp, -⟩ | ⟨hp, -⟩
  · cases hs.symm.trans h
  · exact hp
  · exact hp

/-- Settles O27: the refusal is the step's own first case, and a Running step always answers (`step_answers_running`). -/
theorem stepIsRefusedExactlyBeforeInit : Obligations.StepIsRefusedExactlyBeforeInit := by
  unfold Obligations.StepIsRefusedExactlyBeforeInit
  refine fun s => ⟨fun hp => ?_, step_answers_running⟩
  rcases step_cases s with ⟨-, hs⟩ | ⟨hrun, -⟩ | ⟨hrun, -⟩
  · exact hs
  · cases hp.symm.trans hrun
  · cases hp.symm.trans hrun

/-- Settles O26: `fetch_of_inRange` gives the word that the step decodes. -/
theorem stepRunsTheDecodedInstruction : Obligations.StepRunsTheDecodedInstruction := by
  unfold Obligations.StepRunsTheDecodedInstruction
  intro s hp hin
  exact step_of_fetch hp (fetch_of_inRange hin)

/-- Settles O29: every instruction advances the pc (`exec_completes`), and a sum of words is modulo 2^32. -/
theorem everyFetchedStepAdvancesThePc : Obligations.EveryFetchedStepAdvancesThePc := by
  unfold Obligations.EveryFetchedStepAdvancesThePc
  intro s w hp hf
  obtain ⟨t, he, hpc, -⟩ := exec_completes (decode w) s
  refine ⟨t, (step_of_fetch hp hf).trans he, hpc, ?_⟩
  rw [hpc, BitVec.toNat_add]
  rfl

/-- Settles O30: each outcome of the step has its own status. -/
theorem statusFollowsPipelineOrder : Obligations.StatusFollowsPipelineOrder := by
  unfold Obligations.StatusFollowsPipelineOrder
  intro s hp
  obtain ⟨t, hs, -⟩ := step_answers_running hp
  refine ⟨t, hs, ?_⟩
  rcases step_answer_cases hs with ⟨hout, rfl⟩ | ⟨hin, w, hf, hcases⟩
  · exact .inl ⟨hout, rfl⟩
  · refine .inr ⟨hin, w, hf, ?_⟩
    rcases hcases with ⟨hadd, rfl⟩ | ⟨hrec, rfl⟩ | ⟨hrec, hadd, rfl⟩
    · exact .inr (.inr ⟨hadd, rfl⟩)
    · exact .inl ⟨hrec, rfl⟩
    · exact .inr (.inl ⟨hrec, hadd, rfl⟩)

/-- A step that fetches an ADD adds the registers that its fields name (R140). -/
theorem step_of_addWord {s : State} {w : Word} (hp : s.phase = .running) (hf : fetch s = .ok w) (hadd : IsAddWord w) :
    step s = .next ((s.writeReg (rdOf w) (aluAdd (s.readReg (rs1Of w)) (s.readReg (rs2Of w)))).retire .ok) := by
  rw [step_of_fetch hp hf, decode_of_addWord hadd, exec_add]

/-- Settles O33: the step is that ADD, and `add_result` reads its next state. -/
theorem addWordsExecute : Obligations.AddWordsExecute := by
  unfold Obligations.AddWordsExecute
  intro s w hp hf hadd
  exact ⟨_, step_of_addWord hp hf hadd, add_result rfl⟩

/-- Settles O43: only the ADD among the outcomes of a step writes a register, and that one is its rd. -/
theorem onlyAddChangesARegister : Obligations.OnlyAddChangesARegister := by
  unfold Obligations.OnlyAddChangesARegister
  intro s t r hs hne
  rcases step_answer_cases hs with ⟨-, rfl⟩ | ⟨-, w, hf, ⟨hadd, ht⟩ | ⟨-, rfl⟩ | ⟨-, -, rfl⟩⟩
  · simp at hne
  · obtain ⟨-, -, hreg, -⟩ := add_result ht
    have hr : r = rdOf w ∧ r ≠ 0#5 := by
      by_contra hr
      exact hne ((hreg r).trans (if_neg hr))
    exact ⟨w, hf, hadd, hr.1, hr.2, (hreg r).trans (if_pos hr)⟩
  · simp at hne
  · simp at hne

end Sys2Proof.Machine

/-! The memory ports (20_memory.md R54 to R63): a word is four bytes little-endian, and a load writes its bytes, all or none. -/

namespace Sys2Proof.Machine

/-! ## A word and its four bytes -/

/-- A word is its four bytes, lowest first (R53, R74). -/
theorem wordOfBytes_extractLsb' (w : Word) :
    wordOfBytes (w.extractLsb' 0 8) (w.extractLsb' 8 8) (w.extractLsb' 16 8) (w.extractLsb' 24 8) = w := by
  unfold wordOfBytes
  ext k hk
  simp only [BitVec.getElem_append, BitVec.getElem_extractLsb']
  grind

/-- Byte k of a word is the k-th of the bytes it is made of. -/
theorem extractLsb'_wordOfBytes (b0 b1 b2 b3 : Byte) :
    (wordOfBytes b0 b1 b2 b3).extractLsb' 0 8 = b0 ∧ (wordOfBytes b0 b1 b2 b3).extractLsb' 8 8 = b1 ∧
    (wordOfBytes b0 b1 b2 b3).extractLsb' 16 8 = b2 ∧ (wordOfBytes b0 b1 b2 b3).extractLsb' 24 8 = b3 := by
  unfold wordOfBytes
  simp [-Nat.reduceAdd, BitVec.extractLsb'_append_eq_of_le, BitVec.extractLsb'_append_eq_of_add_le]

/-- The bytes of a list of words: byte k of word i stands at 4i + k. -/
theorem getElem?_flatMap_wordBytes (ws : List Word) {i k : Nat} (hi : i < ws.length) (hk : k < 4) :
    (ws.flatMap wordBytes)[4 * i + k]? = some (ws[i].extractLsb' (8 * k) 8) := by
  induction ws generalizing i with
  | nil => cases hi
  | cons w ws ih =>
    have hlen : (wordBytes w).length = 4 := rfl
    rw [List.flatMap_cons]
    cases i with
    | zero =>
      rw [List.getElem?_append_left (by omega)]
      interval_cases k <;> rfl
    | succ i =>
      rw [List.getElem?_append_right (by omega)]
      have hidx : 4 * (i + 1) + k - (wordBytes w).length = 4 * i + k := by omega
      rw [hidx, ih (by simpa using hi)]
      rfl

/-! ## Reads after a run of writes -/

section Loads
variable {m : Memory} (hm : m.wf) (o : Nat)
include hm

/-- An address within a run of writes reads the byte written there. -/
theorem Memory.read_writeBytes_within {bs : List Byte} {k : Nat} {b : Byte} (hk : bs[k]? = some b) :
    (m.writeBytes o bs).read (o + k) = b := by
  rw [Memory.read_writeBytes hm, if_pos (Nat.le_add_right o k), Nat.add_sub_cancel_left, hk, Option.getD_some]

/-- An address outside a run of writes reads as before. -/
theorem Memory.read_writeBytes_outside {bs : List Byte} {a : Nat} (ha : a < o ∨ o + bs.length ≤ a) :
    (m.writeBytes o bs).read a = m.read a := by
  rw [Memory.read_writeBytes hm]
  split_ifs
  · rw [List.getElem?_eq_none (by omega), Option.getD_none]
  · rfl

/-- The four bytes of word i of a run of words read as that word. -/
theorem Memory.word_writeBytes {ws : List Word} {i : Nat} (hi : i < ws.length) {a : Nat} (ha : a = o + 4 * i) :
    wordOfBytes ((m.writeBytes o (ws.flatMap wordBytes)).read a) ((m.writeBytes o (ws.flatMap wordBytes)).read (a + 1))
      ((m.writeBytes o (ws.flatMap wordBytes)).read (a + 2)) ((m.writeBytes o (ws.flatMap wordBytes)).read (a + 3)) = ws[i] := by
  have hread (k : Nat) (hk : k < 4) :
      (m.writeBytes o (ws.flatMap wordBytes)).read (a + k) = ws[i].extractLsb' (8 * k) 8 := by
    rw [ha, Nat.add_assoc]
    exact Memory.read_writeBytes_within hm o (getElem?_flatMap_wordBytes ws hi hk)
  have h0 := hread 0 (by omega)
  rw [Nat.add_zero] at h0
  rw [h0, hread 1 (by omega), hread 2 (by omega), hread 3 (by omega)]
  exact wordOfBytes_extractLsb' _

end Loads

/-! ## The read ports -/

section Ports
variable {s : State} {a : Word}

/-- A word read in range (R55). -/
theorem memRead32_of_inRange (h : a.toNat + 4 ≤ s.config.memCapacity) :
    memRead32 s a = .ok (wordOfBytes (s.mem.read a.toNat) (s.mem.read (a.toNat + 1)) (s.mem.read (a.toNat + 2))
      (s.mem.read (a.toNat + 3))) := by
  simp [memRead32, h]

/-- A byte read in range (R56). -/
theorem memRead8_of_inRange (h : a.toNat + 1 ≤ s.config.memCapacity) : memRead8 s a = .ok (s.mem.read a.toNat) := by
  simp [memRead8, h]

/-- A word read answers only in range. -/
theorem memRead32_eq_ok {w : Word} (h : memRead32 s a = .ok w) : a.toNat + 4 ≤ s.config.memCapacity ∧
    w = wordOfBytes (s.mem.read a.toNat) (s.mem.read (a.toNat + 1)) (s.mem.read (a.toNat + 2)) (s.mem.read (a.toNat + 3)) := by
  rcases Nat.lt_or_ge s.config.memCapacity (a.toNat + 4) with hout | hin
  · cases h.symm.trans (memRead32_eq_memoryFault_iff.mpr ⟨rfl, hout⟩)
  · cases h.symm.trans (memRead32_of_inRange hin)
    exact ⟨hin, rfl⟩

/-- An address plus a small offset does not wrap while the end is within a legal memory (R8, R54). -/
theorem toNat_add_of_inRange {n k : Nat} (hlegal : s.config.legal = true) (h : a.toNat + n ≤ s.config.memCapacity) (hk : k < n) :
    (a + BitVec.ofNat 32 k).toNat = a.toNat + k := by
  have hcap : s.config.memCapacity ≤ 2 ^ 32 := of_decide_eq_true hlegal
  rw [BitVec.toNat_add, BitVec.toNat_ofNat, Nat.add_mod_mod, Nat.mod_eq_of_lt (by omega)]

end Ports

/-- Settles O18: the two cases of the bounds check; within a legal memory the four addresses do not wrap. -/
theorem wordReadIsFourBytesLittleEndian : Obligations.WordReadIsFourBytesLittleEndian := by
  unfold Obligations.WordReadIsFourBytesLittleEndian
  intro s a hlegal
  refine ⟨fun hout => memRead32_eq_memoryFault_iff.mpr ⟨rfl, hout⟩, fun hin => ?_, _, rfl, ?_⟩
  · have h1 : (a + 1#32).toNat = a.toNat + 1 := toNat_add_of_inRange hlegal hin (by omega)
    have h2 : (a + 2#32).toNat = a.toNat + 2 := toNat_add_of_inRange hlegal hin (by omega)
    have h3 : (a + 3#32).toNat = a.toNat + 3 := toNat_add_of_inRange hlegal hin (by omega)
    rw [memRead32_of_inRange hin, h1, h2, h3]
    exact ⟨rfl, rfl, rfl, rfl⟩
  · obtain ⟨st, hst⟩ := settleRead_state s ((memRead32 s a).map .word)
    rw [hst]
    rfl

/-- Settles O19: the byte read at a + k is the k-th of the four bytes that the word is made of. -/
theorem wordReadAgreesWithByteReads : Obligations.WordReadAgreesWithByteReads := by
  unfold Obligations.WordReadAgreesWithByteReads
  intro s a w hlegal hw k hk
  obtain ⟨hin, rfl⟩ := memRead32_eq_ok hw
  obtain ⟨h0, h1, h2, h3⟩ := extractLsb'_wordOfBytes (s.mem.read a.toNat) (s.mem.read (a.toNat + 1)) (s.mem.read (a.toNat + 2))
    (s.mem.read (a.toNat + 3))
  have haddr := toNat_add_of_inRange hlegal hin hk
  rw [memRead8_of_inRange (by omega), haddr]
  congr 1
  interval_cases k
  · exact h0.symm
  · exact h1.symm
  · exact h2.symm
  · exact h3.symm

/-! ## The write ports -/

/-- A byte load answers the loaded memory exactly where it is empty or ends within memory, and otherwise MemoryFault (R60, R62). -/
theorem mapBytes_cases (s : State) (o : Word) (bs : List Byte) :
    ((bs = [] ∨ o.toNat + bs.length ≤ s.config.memCapacity) ∧
      mapBytes s o bs = .ok { s with mem := s.mem.writeBytes o.toNat bs }) ∨
    (bs ≠ [] ∧ s.config.memCapacity < o.toNat + bs.length ∧ mapBytes s o bs = .error (.memoryFault o)) := by
  by_cases h : bs = [] ∨ o.toNat + bs.length ≤ s.config.memCapacity
  · exact .inl ⟨h, mapBytes_eq_ok_iff.mpr ⟨h, rfl⟩⟩
  · rw [not_or, Nat.not_le] at h
    exact .inr ⟨h.1, h.2, mapBytes_eq_memoryFault_iff.mpr ⟨rfl, h⟩⟩

/-- A list of words has no bytes only where it has no words. -/
theorem flatMap_wordBytes_eq_nil_iff {ws : List Word} : ws.flatMap wordBytes = [] ↔ ws = [] := by
  rw [← List.length_eq_zero_iff, length_flatMap_wordBytes, ← List.length_eq_zero_iff]
  omega

/-- A word load that answers, as the byte load of the words' bytes (R61). -/
theorem mapWords_eq_ok_iff {s t : State} {o : Word} {ws : List Word} :
    mapWords s o ws = .ok t ↔ (ws = [] ∨ o.toNat + 4 * ws.length ≤ s.config.memCapacity) ∧
      t = { s with mem := s.mem.writeBytes o.toNat (ws.flatMap wordBytes) } := by
  rw [mapWords_eq_mapBytes, mapBytes_eq_ok_iff, flatMap_wordBytes_eq_nil_iff, length_flatMap_wordBytes]

/-- A word load answers as the byte load of its bytes does: all of them, or MemoryFault (R61, R62). -/
theorem mapWords_cases (s : State) (o : Word) (ws : List Word) :
    ((ws = [] ∨ o.toNat + 4 * ws.length ≤ s.config.memCapacity) ∧
      mapWords s o ws = .ok { s with mem := s.mem.writeBytes o.toNat (ws.flatMap wordBytes) }) ∨
    (ws ≠ [] ∧ s.config.memCapacity < o.toNat + 4 * ws.length ∧ mapWords s o ws = .error (.memoryFault o)) := by
  have h := mapBytes_cases s o (ws.flatMap wordBytes)
  rwa [ne_eq, flatMap_wordBytes_eq_nil_iff, length_flatMap_wordBytes, ← mapWords_eq_mapBytes] at h

/-- The byte write is the byte load of one byte (R57, R60). -/
theorem mapBytes_singleton (s : State) (a : Word) (b : Byte) : mapBytes s a [b] = memWrite8 s a b := by
  by_cases h : a.toNat + 1 ≤ s.config.memCapacity <;> simp [mapBytes, memWrite8, Memory.writeBytes, inRange, h]

/-- Settles O20: the byte write is a load of one byte, so the laws of a run of writes say what every address reads. -/
theorem byteWriteThenRead : Obligations.ByteWriteThenRead := by
  unfold Obligations.ByteWriteThenRead
  intro s a b hm
  rw [← mapBytes_singleton]
  refine ⟨fun hout => mapBytes_eq_memoryFault_iff.mpr ⟨rfl, by simp, hout⟩, fun hin => ?_, rfl⟩
  refine ⟨_, mapBytes_eq_ok_iff.mpr ⟨.inr hin, rfl⟩, ?_, fun c hc => ?_, rfl⟩
  · exact Memory.read_writeBytes_within hm a.toNat (k := 0) rfl
  · exact Memory.read_writeBytes_outside hm a.toNat (by rw [List.length_singleton]; omega)

/-- Settles O21: a load either ran within its bound, and then `Memory.read_writeBytes_within` gives each byte, or failed its check. -/
theorem bulkLoadIsAllOrNothing : Obligations.BulkLoadIsAllOrNothing := by
  unfold Obligations.BulkLoadIsAllOrNothing
  intro s o hm
  refine ⟨fun bs => ⟨_, rfl, ?_⟩, fun ws => ⟨_, rfl, ?_⟩⟩
  · rcases mapBytes_cases s o bs with ⟨hin, he⟩ | ⟨hne, hout, he⟩
    · rw [he]
      exact .inl ⟨rfl, hin, fun k hk => Memory.read_writeBytes_within hm _ (List.getElem?_eq_getElem hk)⟩
    · rw [he]
      exact .inr ⟨rfl, hne, hout, rfl⟩
  · rcases mapWords_cases s o ws with ⟨hin, he⟩ | ⟨hne, hout, he⟩
    · rw [he]
      refine .inl ⟨rfl, hin, fun i hi k hk => ?_⟩
      rw [Nat.add_assoc]
      exact Memory.read_writeBytes_within hm _ (getElem?_flatMap_wordBytes ws hi hk)
    · rw [he]
      exact .inr ⟨rfl, hne, hout, rfl⟩

/-- Settles O22: a load that answers wrote its run of bytes and nothing else. -/
theorem bulkLoadFrame : Obligations.BulkLoadFrame := by
  unfold Obligations.BulkLoadFrame
  intro s o bs ws hm
  refine ⟨fun t h => ?_, fun t h => ?_, ?_, ?_⟩
  · obtain ⟨-, rfl⟩ := mapBytes_eq_ok_iff.mp h
    exact ⟨rfl, fun a ha => Memory.read_writeBytes_outside hm _ ha⟩
  · obtain ⟨-, rfl⟩ := mapWords_eq_ok_iff.mp h
    exact ⟨rfl, fun a ha => Memory.read_writeBytes_outside hm _ (by rwa [length_flatMap_wordBytes])⟩
  · simp [mapBytes_eq_ok_iff]
  · simp [mapWords_eq_ok_iff]

/-- Word i of a load that answered is read back at its stride. -/
theorem memRead32_of_mapWords {s t : State} {o : Word} {ws : List Word} (hs : s.Inv) (h : mapWords s o ws = .ok t) {i : Nat}
    (hi : i < ws.length) : memRead32 t (o + BitVec.ofNat 32 (4 * i)) = .ok ws[i] := by
  obtain ⟨hlegal, hm, -⟩ := hs
  obtain ⟨hempty | hin, rfl⟩ := mapWords_eq_ok_iff.mp h
  · simp [hempty] at hi
  · have haddr := toNat_add_of_inRange hlegal hin (k := 4 * i) (by omega)
    rw [memRead32_of_inRange (by simp only [haddr]; omega)]
    exact congrArg Except.ok (Memory.word_writeBytes hm _ hi haddr)

/-- Settles O23: words by `memRead32_of_mapWords`, and bytes likewise. -/
theorem loadedWordsReadBack : Obligations.LoadedWordsReadBack := by
  unfold Obligations.LoadedWordsReadBack
  intro s o hs
  refine ⟨fun ws t h i hi => memRead32_of_mapWords hs h hi, fun bs t h k hk => ?_⟩
  obtain ⟨hlegal, hm, -⟩ := hs
  obtain ⟨rfl | hin, rfl⟩ := mapBytes_eq_ok_iff.mp h
  · cases hk
  · have haddr := toNat_add_of_inRange hlegal hin hk
    rw [memRead8_of_inRange (by simp only [haddr]; omega), haddr]
    exact congrArg Except.ok (Memory.read_writeBytes_within hm _ (List.getElem?_eq_getElem hk))

/-- Settles O52: the word loaded at the pc is the word fetched there. -/
theorem fetchSeesTheHostsWrite : Obligations.FetchSeesTheHostsWrite := by
  unfold Obligations.FetchSeesTheHostsWrite
  intro s t w hs hp h
  have hf : memRead32 t s.pc = .ok w := by simpa using memRead32_of_mapWords hs h (i := 0) (by simp)
  obtain ⟨-, rfl⟩ := mapWords_eq_ok_iff.mp h
  exact step_of_fetch hp hf

/-- A word stored where the pc stands is the word fetched there. -/
theorem step_of_storedWord {s : State} (hp : s.phase = .running) (hm : s.mem.wf) (hin : s.pc.toNat + 4 ≤ s.config.memCapacity)
    (w : Word) :
    step { s with mem := s.mem.writeBytes s.pc.toNat (wordBytes w) } =
      exec (decode w) { s with mem := s.mem.writeBytes s.pc.toNat (wordBytes w) } := by
  refine step_of_fetch hp ((fetch_of_inRange ?_).trans (congrArg Except.ok ?_))
  · exact hin
  · exact Memory.word_writeBytes hm _ (ws := [w]) (i := 0) Nat.zero_lt_one rfl

/-- What `withFetchWord` stores where the word at the pc can be fetched. -/
theorem withFetchWord_of_running {s : State} (hp : s.phase = .running) (hin : s.pc.toNat + 4 ≤ s.config.memCapacity) (w : Word) :
    s.withFetchWord 32 w.toNat = { s with mem := s.mem.writeBytes s.pc.toNat (wordBytes w) } := by
  simp [State.withFetchWord, hp, hin, Nat.mod_eq_of_lt w.isLt]

/-- While Uninitialized `withFetchWord` first gives the state its init (log 11). -/
theorem withFetchWord_of_uninitialized {s : State} (hp : s.phase = .uninitialized) (n w : Nat) :
    s.withFetchWord n w = s.init.withFetchWord n w := by
  simp [State.withFetchWord, hp]

/-- Settles O53: the word is stored at the pc, after init where the phase asks for it. -/
theorem withFetchWordRunsTheWordNext : Obligations.WithFetchWordRunsTheWordNext := by
  unfold Obligations.WithFetchWordRunsTheWordNext
  intro s w hm
  constructor
  · intro hp hin
    rw [withFetchWord_of_running hp hin]
    exact step_of_storedWord hp hm hin w
  · intro hp hin
    rw [withFetchWord_of_uninitialized hp, withFetchWord_of_running rfl hin]
    exact step_of_storedWord (s := s.init) rfl hm hin w

/-! ## The canonical form -/

theorem Memory.read_cons_self (k : Nat) (v : Byte) (m : Memory) : Memory.read ((k, v) :: m) k = v := if_pos rfl

theorem Memory.read_cons_of_ne {k a : Nat} (h : k ≠ a) (v : Byte) (m : Memory) : Memory.read ((k, v) :: m) a = m.read a :=
  if_neg h

/-- What the canonical form says of the first entry: its byte is not what an unlisted address reads as, the rest is in canonical form
and does not list its address, and no address below it is listed. -/
theorem Memory.wf_cons {k : Nat} {v : Byte} {m : Memory} (h : Memory.wf ((k, v) :: m)) :
    v ≠ unlistedByte ∧ m.wf ∧ m.read k = unlistedByte ∧ ∀ a < k, Memory.read ((k, v) :: m) a = unlistedByte := by
  obtain ⟨hsorted, hne⟩ := h
  obtain ⟨habove, hrest⟩ := List.pairwise_cons.mp hsorted
  refine ⟨hne _ List.mem_cons_self, ⟨hrest, fun c hc => hne c (List.mem_cons_of_mem _ hc)⟩, Memory.read_of_lt habove,
    fun a ha => ?_⟩
  rw [Memory.read_cons_of_ne ha.ne']
  exact Memory.read_of_lt fun c hc => ha.trans (habove c hc)

/-- Memories in canonical form that read alike have the same first address: the lower of two would be read in one memory only. -/
theorem Memory.head_le_of_read_eq {k l : Nat} {v u : Byte} {m n : Memory} (hm : Memory.wf ((k, v) :: m))
    (hn : Memory.wf ((l, u) :: n)) (h : ∀ a, Memory.read ((k, v) :: m) a = Memory.read ((l, u) :: n) a) : l ≤ k := by
  obtain ⟨hv, -⟩ := Memory.wf_cons hm
  obtain ⟨-, -, -, hlow⟩ := Memory.wf_cons hn
  by_contra hlt
  exact hv ((Memory.read_cons_self k v m).symm.trans ((h k).trans (hlow k (by omega))))

/-- The canonical form is unique. -/
theorem Memory.eq_of_read_eq {m n : Memory} (hm : m.wf) (hn : n.wf) (h : ∀ a, m.read a = n.read a) : m = n := by
  induction m generalizing n with
  | nil =>
    cases n with
    | nil => rfl
    | cons e n => exact absurd ((Memory.read_cons_self ..).symm.trans (h e.1).symm) (Memory.wf_cons hn).1
  | cons d m ih =>
    obtain ⟨k, v⟩ := d
    cases n with
    | nil => exact absurd ((Memory.read_cons_self ..).symm.trans (h k)) (Memory.wf_cons hm).1
    | cons e n =>
      obtain ⟨l, u⟩ := e
      have hkl : k ≤ l := Memory.head_le_of_read_eq hn hm fun a => (h a).symm
      have hlk : l ≤ k := Memory.head_le_of_read_eq hm hn h
      obtain rfl : k = l := Nat.le_antisymm hkl hlk
      obtain rfl : v = u := (Memory.read_cons_self k v m).symm.trans ((h k).trans (Memory.read_cons_self k u n))
      obtain ⟨-, hmrest, hmk, -⟩ := Memory.wf_cons hm
      obtain ⟨-, hnrest, hnk, -⟩ := Memory.wf_cons hn
      rw [ih hmrest hnrest fun a => ?_]
      by_cases ha : k = a
      · rw [← ha, hmk, hnk]
      · rw [← Memory.read_cons_of_ne ha v m, h a, Memory.read_cons_of_ne ha]

/-- Settles O25: by induction on the two lists (`Memory.eq_of_read_eq`). -/
theorem equalReadsMeanEqualMemories : Obligations.EqualReadsMeanEqualMemories := by
  unfold Obligations.EqualReadsMeanEqualMemories
  exact fun m n hm hn h => Memory.eq_of_read_eq hm hn h

end Sys2Proof.Machine

/-! What the host's transactions keep: the invariant of the state and the phase rule (70_reset_and_hazards.md R230, R233), which hold
of every state the host can reach. -/

namespace Sys2Proof.Machine

/-! ## The invariant -/

/-- The invariant speaks of the configuration and memory only. -/
theorem State.Inv_congr {s t : State} (hconfig : t.config = s.config) (hmem : t.mem = s.mem) : t.Inv ↔ s.Inv := by
  rw [State.Inv, State.Inv, hconfig, hmem]

/-- A load within its bound lists no address beyond memory (R60, R62). -/
theorem State.Inv_load {s : State} (hs : s.Inv) {o : Nat} {bs : List Byte} (hb : bs = [] ∨ o + bs.length ≤ s.config.memCapacity) :
    State.Inv { s with mem := s.mem.writeBytes o bs } := by
  obtain ⟨hlegal, hwf, hbelow⟩ := hs
  refine ⟨hlegal, Memory.writeBytes_wf hwf o bs, ?_⟩
  rcases hb with rfl | hb
  · exact hbelow
  · exact Memory.writeBytes_below hbelow hb

/-- A step keeps the invariant: it changes neither the configuration nor memory. -/
theorem step_keeps_Inv {s t : State} (hs : s.Inv) (h : step s = .next t) : t.Inv :=
  (State.Inv_congr (step_config h) (step_mem h)).mpr hs

theorem transact_keeps_Inv {t : Transaction} {s : State} {r : Reply} (hs : s.Inv) (h : transact t s = .next r) : r.state.Inv := by
  rcases transact_cases h with ⟨-, hr⟩ | ⟨-, hstep⟩ | ⟨i, v, -, -, hr⟩ | ⟨o, bs, -, hb, hr⟩ | ⟨st, hr⟩
  · rw [hr]
    exact hs
  · exact step_keeps_Inv hs hstep
  · rw [hr]
    exact (State.Inv_congr (by simp) (by simp)).mpr hs
  · rw [hr]
    exact State.Inv_load hs hb
  · rw [hr]
    exact hs

/-- Settles O46: by what a transaction can do (`transact_cases`); a load alone changes memory, within its bound. -/
theorem everyTransactionKeepsTheInvariant : Obligations.EveryTransactionKeepsTheInvariant := by
  unfold Obligations.EveryTransactionKeepsTheInvariant
  exact ⟨fun _ _ _ => transact_keeps_Inv, fun _ _ => step_keeps_Inv⟩

/-- A constructed state of a legal configuration has the invariant: no address is listed (R52). -/
theorem State.constructed_Inv {c : Config} (hc : c.legal = true) : (State.constructed c).Inv :=
  ⟨hc, ⟨List.Pairwise.nil, nofun⟩, nofun⟩

/-- Settles O47: construction succeeds for a legal configuration only, and lists no byte. -/
theorem resetHasTheInvariant : Obligations.ResetHasTheInvariant := by
  unfold Obligations.ResetHasTheInvariant
  refine ⟨⟨State.constructed_Inv (by decide), rfl⟩, fun capacity start s h => ?_⟩
  obtain ⟨⟨hcap, -⟩, rfl⟩ := construct_eq_next_iff.mp h
  exact ⟨State.constructed_Inv (decide_eq_true hcap), rfl⟩

/-! ## The phase rule -/

/-- While Uninitialized the pc is the 0 of construction (D11). -/
def PhaseRule (s : State) : Prop := s.phase = .uninitialized → s.pc = 0#32

/-- What a transaction does to pc and phase: init sets both, a step runs in phase Running and stays there, and the rest keep both. -/
theorem transact_phase_cases {t : Transaction} {s : State} {r : Reply} (h : transact t s = .next r) :
    (t = .init ∧ r.state = s.init) ∨ (t = .step ∧ s.phase = .running ∧ r.state.phase = .running) ∨
    (r.state.pc = s.pc ∧ r.state.phase = s.phase) := by
  rcases transact_cases h with ⟨ht, hr⟩ | ⟨ht, hstep⟩ | ⟨_, _, -, -, hr⟩ | ⟨_, _, -, -, hr⟩ | ⟨_, hr⟩
  · exact .inl ⟨ht, hr⟩
  · have hp := phase_of_step hstep
    obtain ⟨u, hu, hup⟩ := step_answers_running hp
    cases hu.symm.trans hstep
    exact .inr (.inl ⟨ht, hp, hup⟩)
  all_goals exact .inr (.inr (by simp [hr]))

/-- Settles O58: in each of the three cases of `transact_phase_cases` the rule is kept, and only init enters Running. -/
theorem everyTransactionKeepsThePhaseRule : Obligations.EveryTransactionKeepsThePhaseRule := by
  unfold Obligations.EveryTransactionKeepsThePhaseRule
  intro t s r hs h
  rcases transact_phase_cases h with ⟨ht, hr⟩ | ⟨-, hp, hrp⟩ | ⟨hpc, hphase⟩
  · rw [hr]
    exact ⟨nofun, fun _ => rfl, fun _ _ => ht⟩
  · rw [hp, hrp]
    exact ⟨nofun, id, nofun⟩
  · rw [hpc, hphase]
    exact ⟨hs, id, fun hu hp => nomatch hu.symm.trans hp⟩

/-! ## Every reachable state -/

/-- What a transaction keeps, any list of transactions keeps. -/
theorem transactAll_keeps {P : State → Prop} (hP : ∀ t s r, P s → transact t s = .next r → P r.state) {ts : List Transaction}
    {s s' : State} (hs : P s) (h : transactAll ts s = .next s') : P s' := by
  induction ts generalizing s with
  | nil =>
    cases h
    exact hs
  | cons t ts ih =>
    cases ht : transact t s with
    | next r =>
      rw [transactAll, ht] at h
      exact ih (hP t s r hs ht) h
    | fault | refused =>
      rw [transactAll, ht] at h
      cases h

/-- What every construction gives and every transaction keeps holds of every reachable state. -/
theorem Reachable.induction {P : State → Prop} (hconstruct : ∀ capacity start s, construct capacity start = .next s → P s)
    (hP : ∀ t s r, P s → transact t s = .next r → P r.state) {s : State} (h : Reachable s) : P s := by
  obtain ⟨capacity, start, s₀, ts, hc, hts⟩ := h
  exact transactAll_keeps hP (hconstruct capacity start s₀ hc) hts

/-- Settles O48: construction gives the invariant and the phase rule (O47, O9), and every transaction keeps them (O46, O58). -/
theorem reachableStatesHaveTheInvariant : Obligations.ReachableStatesHaveTheInvariant := by
  unfold Obligations.ReachableStatesHaveTheInvariant
  constructor
  · refine fun s => Reachable.induction (fun capacity start r h => ?_) fun _ _ _ => transact_keeps_Inv
    exact (resetHasTheInvariant.2 capacity start r h).1
  · refine fun s => Reachable.induction (P := PhaseRule) (fun capacity start r h => ?_) fun t r u hr h => ?_
    · obtain ⟨-, rfl⟩ := construct_eq_next_iff.mp h
      exact fun _ => rfl
    · exact (everyTransactionKeepsThePhaseRule t r u hr h).1

/-! ## Construction and init -/

/-- Construction leaves every register zero (R34). -/
theorem State.constructed_readReg (c : Config) (i : RegIdx) : (State.constructed c).readReg i = 0#32 := by
  by_cases hi : i = 0#5 <;> simp [State.readReg, State.constructed, hi]

/-- Settles O9: a constructed state's fields are those of its definition. -/
theorem constructionResetsEveryState : Obligations.ConstructionResetsEveryState := by
  unfold Obligations.ConstructionResetsEveryState
  refine ⟨construct_eq_next_iff.mpr ⟨by decide, rfl⟩, rfl, fun capacity start s h => ?_⟩
  obtain ⟨-, rfl⟩ := construct_eq_next_iff.mp h
  exact ⟨State.constructed_readReg _, State.constructed_read _, rfl, rfl, rfl, rfl⟩

/-- Settles O11: within the ranges construction answers (`construct_eq_next_iff`), and outside them its check fails. -/
theorem constructionRefusesBadArguments : Obligations.ConstructionRefusesBadArguments := by
  unfold Obligations.ConstructionRefusesBadArguments
  intro capacity start
  refine ⟨fun h => ⟨_, construct_eq_next_iff.mpr ⟨h, rfl⟩, rfl, Nat.mod_eq_of_lt h.2⟩, fun h => ?_⟩
  rw [construct, if_neg (mt legalArguments_iff.mp h)]

/-- Settles O12: init's own fields; a second init finds the configuration unchanged. -/
theorem initSeedsThePcOnly : Obligations.InitSeedsThePcOnly := by
  unfold Obligations.InitSeedsThePcOnly
  intro s
  exact ⟨_, rfl, rfl, State.init_status s, State.init_pc s, State.init_phase s, State.readReg_init s, fun _ => rfl,
    State.init_config s, rfl⟩

/-- Settles O13: after init the pc is the start address, so the next step fetches there. -/
theorem firstStepFetchesAtStartAddress : Obligations.FirstStepFetchesAtStartAddress := by
  unfold Obligations.FirstStepFetchesAtStartAddress
  constructor
  · intro capacity start start' s s' h h'
    obtain ⟨-, rfl⟩ := construct_eq_next_iff.mp h
    obtain ⟨-, rfl⟩ := construct_eq_next_iff.mp h'
    rfl
  · refine fun s => ⟨State.init_pc s, fun w hw => step_of_fetch rfl hw, fun st hst => ?_⟩
    rcases fetch_cases s.init with ⟨-, w, hf⟩ | ⟨-, hf⟩
    · cases hf.symm.trans hst
    · cases hf.symm.trans hst
      exact ⟨rfl, step_of_fetch_error rfl hf⟩

end Sys2Proof.Machine

/-! The statuses that the host's transactions return (60_exceptions.md R200 to R206), the register port and the read ports
(10_state.md R30, R31): each status but Ok comes from one place, and none influences what follows. -/

namespace Sys2Proof.Machine

/-! ## Where each status comes from -/

section Statuses
variable {s : State}

/-- The register port's only error is InvalidRegister with the index given (R30, R204). -/
theorem regRead_eq_error_iff {i : Nat} {st : Status} : regRead s i = .error st ↔ 32 ≤ i ∧ st = .invalidRegister i := by
  by_cases h : 32 ≤ i <;> simp [regRead, h, eq_comm]

theorem regWrite_eq_error_iff {i : Nat} {v : Word} {st : Status} :
    regWrite s i v = .error st ↔ 32 ≤ i ∧ st = .invalidRegister i := by
  by_cases h : 32 ≤ i <;> simp [regWrite, h, eq_comm]

/-- The memory ports' only error is MemoryFault with the start of the access (R55 to R63, R203). -/
theorem memRead8_error {a : Word} {st : Status} (h : memRead8 s a = .error st) : st = .memoryFault a := by
  unfold memRead8 at h
  split at h <;> cases h
  rfl

theorem memRead32_error {a : Word} {st : Status} (h : memRead32 s a = .error st) : st = .memoryFault a := by
  unfold memRead32 at h
  split at h <;> cases h
  rfl

theorem mapBytes_error {o : Word} {bs : List Byte} {st : Status} (h : mapBytes s o bs = .error st) : st = .memoryFault o := by
  rcases mapBytes_cases s o bs with ⟨-, he⟩ | ⟨-, -, he⟩
  · cases he.symm.trans h
  · cases he.symm.trans h
    rfl

theorem mapWords_error {o : Word} {ws : List Word} {st : Status} (h : mapWords s o ws = .error st) : st = .memoryFault o :=
  mapBytes_error ((mapWords_eq_mapBytes s o ws).symm.trans h)

/-- A transaction that reads returns Ok, or its port's error. -/
theorem settleRead_status (s : State) (e : Except Status Value) :
    (settleRead s e).state.status = .ok ∨ e = .error (settleRead s e).state.status := by
  cases e with
  | ok v => exact .inl rfl
  | error st => exact .inr rfl

/-- A transaction that writes returns Ok, or its port's error. -/
theorem settleWrite_status (s : State) (e : Except Status State) :
    (settleWrite s e).state.status = .ok ∨ e = .error (settleWrite s e).state.status := by
  cases e with
  | ok v => exact .inl rfl
  | error st => exact .inr rfl

/-- Every status that a transaction can return: a step's own, Ok, MemoryFault, or InvalidRegister from the register port. -/
theorem transact_status_cases {t : Transaction} {r : Reply} (h : transact t s = .next r) :
    (t = .step ∧ step s = .next r.state) ∨ r.state.status = .ok ∨ (∃ a, r.state.status = .memoryFault a) ∨
    ∃ i, 32 ≤ i ∧ r.state.status = .invalidRegister i ∧ (t = .regRead i ∨ ∃ v, t = .regWrite i v) := by
  cases t with
  | init =>
    cases h
    exact .inr (.inl rfl)
  | step =>
    obtain ⟨_, hs, rfl⟩ := transact_step_eq_next_iff.mp h
    exact .inl ⟨rfl, hs⟩
  | getPc =>
    cases h
    exact .inr (.inl rfl)
  | regRead i =>
    cases h
    refine .inr ((settleRead_status s _).imp_right fun he => .inr ?_)
    obtain ⟨hi, hst⟩ := regRead_eq_error_iff.mp (map_eq_error_iff.mp he)
    exact ⟨i, hi, hst, .inl rfl⟩
  | regWrite i v =>
    cases h
    refine .inr ((settleWrite_status s _).imp_right fun he => .inr ?_)
    obtain ⟨hi, hst⟩ := regWrite_eq_error_iff.mp he
    exact ⟨i, hi, hst, .inr ⟨v, rfl⟩⟩
  | memRead8 a =>
    cases h
    exact .inr ((settleRead_status s _).imp_right fun he => .inl ⟨a, memRead8_error (map_eq_error_iff.mp he)⟩)
  | memRead32 a =>
    cases h
    exact .inr ((settleRead_status s _).imp_right fun he => .inl ⟨a, memRead32_error (map_eq_error_iff.mp he)⟩)
  | mapBytes o bs =>
    cases h
    exact .inr ((settleWrite_status s _).imp_right fun he => .inl ⟨o, mapBytes_error he⟩)
  | mapWords o ws =>
    cases h
    exact .inr ((settleWrite_status s _).imp_right fun he => .inl ⟨o, mapWords_error he⟩)

/-- A transaction that reports a word is a step. -/
theorem transact_step_of_status {t : Transaction} {r : Reply} (h : transact t s = .next r) (hok : r.state.status ≠ .ok)
    (hmem : ∀ a, r.state.status ≠ .memoryFault a) (hreg : ∀ i, r.state.status ≠ .invalidRegister i) :
    t = .step ∧ step s = .next r.state := by
  rcases transact_status_cases h with hstep | hst | ⟨a, hst⟩ | ⟨i, -, hst, -⟩
  · exact hstep
  · exact absurd hst hok
  · exact absurd hst (hmem a)
  · exact absurd hst (hreg i)

/-- No step answers InvalidRegister: it has no access to the register port (R204). -/
theorem step_status_ne_invalidRegister {t : State} (h : step s = .next t) (i : Nat) : t.status ≠ .invalidRegister i := by
  rcases step_answer_cases h with ⟨-, rfl⟩ | ⟨-, _, -, ⟨-, rfl⟩ | ⟨-, rfl⟩ | ⟨-, -, rfl⟩⟩ <;> exact nofun

end Statuses

/-- Settles O31: the step's outcome on such a word, and conversely the one outcome with this status. -/
theorem unimplementedWordsOnlyAdvanceThePc : Obligations.UnimplementedWordsOnlyAdvanceThePc := by
  unfold Obligations.UnimplementedWordsOnlyAdvanceThePc
  constructor
  · intro s w hp hf hrec hadd
    rw [step_of_fetch hp hf]
    rcases exec_decode_cases w s with ⟨hadd', -⟩ | ⟨hrec', -⟩ | ⟨-, -, he⟩
    · exact absurd hadd' hadd
    · exact absurd hrec hrec'
    · exact he
  · intro t s r w h hst
    obtain ⟨ht, hs⟩ := transact_step_of_status h (by simp [hst]) (by simp [hst]) (by simp [hst])
    rcases step_answer_cases hs with ⟨-, hr⟩ | ⟨-, v, hf, ⟨-, hr⟩ | ⟨-, hr⟩ | ⟨hrec, hadd, hr⟩⟩ <;> rw [hr] at hst <;> cases hst
    exact ⟨ht, hf, hrec, hadd⟩

/-- Settles O32: the step's outcome on such a word, and conversely the one outcome with this status. -/
theorem unrecognizedWordsOnlyAdvanceThePc : Obligations.UnrecognizedWordsOnlyAdvanceThePc := by
  unfold Obligations.UnrecognizedWordsOnlyAdvanceThePc
  constructor
  · intro s w hp hf hrec
    rw [step_of_fetch hp hf, decode_of_noClass hrec]
    rfl
  · intro t s r w h hst
    obtain ⟨ht, hs⟩ := transact_step_of_status h (by simp [hst]) (by simp [hst]) (by simp [hst])
    rcases step_answer_cases hs with ⟨-, hr⟩ | ⟨-, v, hf, ⟨-, hr⟩ | ⟨hrec, hr⟩ | ⟨-, -, hr⟩⟩ <;> rw [hr] at hst <;> cases hst
    exact ⟨ht, hf, hrec⟩

/-! ## The register port and the read ports -/

/-- Settles O14: the port's error, and conversely the one source of this status (`transact_status_cases`). -/
theorem invalidRegisterComesFromTheRegisterPortOnly : Obligations.InvalidRegisterComesFromTheRegisterPortOnly := by
  unfold Obligations.InvalidRegisterComesFromTheRegisterPortOnly
  constructor
  · intro s i v hi
    rw [transact, transact, regRead_eq_error_iff.mpr ⟨hi, rfl⟩, regWrite_eq_error_iff.mpr ⟨hi, rfl⟩]
    exact ⟨rfl, rfl⟩
  · intro t s r i h hst
    rcases transact_status_cases h with ⟨-, hs⟩ | hok | ⟨a, hmem⟩ | ⟨j, hj, hreg, ht⟩
    · exact absurd hst (step_status_ne_invalidRegister hs i)
    · cases hst.symm.trans hok
    · cases hst.symm.trans hmem
    · cases hst.symm.trans hreg
      exact ⟨hj, ht⟩

/-- Below 32 the register port reads the register that instructions read (R30). -/
theorem regRead_of_lt {i : Nat} (hi : i < 32) (s : State) : regRead s i = .ok (s.readReg (BitVec.ofNat 5 i)) :=
  if_neg (Nat.not_le.mpr hi)

/-- Indices below 32 name the same register only where they are equal. -/
theorem ofNat5_eq_iff {i j : Nat} (hi : i < 32) (hj : j < 32) : BitVec.ofNat 5 j = BitVec.ofNat 5 i ↔ j = i := by
  rw [BitVec.toNat_eq, BitVec.toNat_ofNat, BitVec.toNat_ofNat, Nat.mod_eq_of_lt hi, Nat.mod_eq_of_lt hj]

/-- Settles O15: the port writes the named register, and a read after it is `State.readReg_writeReg`. -/
theorem registerWriteThenRead : Obligations.RegisterWriteThenRead := by
  unfold Obligations.RegisterWriteThenRead
  intro s i j v hi hj
  have ht : transact (.regWrite i v) s = .next { state := (s.writeReg (BitVec.ofNat 5 i) v).returns .ok, value := none } := by
    rw [transact, regWrite_eq_ok_iff.mpr ⟨hi, rfl⟩, settleWrite]
  refine ⟨_, ht, rfl, ?_, by simp, by simp, by simp, by simp⟩
  have hzero : BitVec.ofNat 5 j = 0#5 ↔ j = 0 := ofNat5_eq_iff (by omega) hj
  rw [regRead_of_lt hj, regRead_of_lt hj, State.readReg_returns, State.readReg_writeReg]
  simp only [ne_eq, ofNat5_eq_iff hi hj, hzero, apply_ite Except.ok]

/-- Settles O16: x0 has no cell, so reading it gives 0 and writing it does nothing (R22). -/
theorem registerZeroReadsZero : Obligations.RegisterZeroReadsZero := by
  unfold Obligations.RegisterZeroReadsZero
  exact fun s v => ⟨State.readReg_zero s, State.writeReg_zero s v, rfl, rfl⟩

/-- Settles O17: a read port's transaction is `settleRead` of what the port answers. -/
theorem readPortsChangeNoState : Obligations.ReadPortsChangeNoState := by
  unfold Obligations.ReadPortsChangeNoState
  refine ⟨?_, fun _ => rfl, fun s i hi => ?_, fun s a => ⟨fun b h => ?_, fun st h => ?_, fun w h => ?_, fun st h => ?_⟩⟩
  · rintro t s r h (⟨i, rfl⟩ | rfl | ⟨a, rfl⟩ | ⟨a, rfl⟩) <;> cases h <;>
      · obtain ⟨st, hst⟩ := settleRead_state s _
        rw [hst]
        rfl
  · rw [transact, regRead_of_lt hi]
    rfl
  all_goals
    rw [transact, h]
    rfl

/-! ## No status influences what follows (R205) -/

section Noninterference
variable (s : State) (st : Status)

theorem State.returns_returns (st' : Status) : (s.returns st).returns st' = s.returns st' := rfl
theorem State.retire_returns (st' : Status) : (s.returns st).retire st' = s.retire st' := rfl

theorem State.writeReg_returns (i : RegIdx) (v : Word) : (s.returns st).writeReg i v = (s.writeReg i v).returns st := by
  unfold State.writeReg
  split <;> rfl

/-- Every outcome of the execute stage has a status of its own, and nothing in it reads the old one. -/
theorem exec_returns (i : Instr) : exec i (s.returns st) = exec i s := by
  cases i with
  | add rd rs1 rs2 =>
    rw [exec_add, exec_add, State.readReg_returns, State.readReg_returns, State.writeReg_returns, State.retire_returns]
  | _ => rfl

theorem fetch_returns : fetch (s.returns st) = fetch s := rfl

theorem step_returns : step (s.returns st) = step s := by
  simp only [step, State.returns_phase, fetch_returns, exec_returns, State.returns_returns]

/-- A write port writes to the state as it is, the old status with it. -/
theorem regWrite_returns (i : Nat) (v : Word) : regWrite (s.returns st) i v = (regWrite s i v).map (·.returns st) := by
  unfold regWrite
  rw [State.writeReg_returns]
  split <;> rfl

theorem mapBytes_returns (o : Word) (bs : List Byte) : mapBytes (s.returns st) o bs = (mapBytes s o bs).map (·.returns st) := by
  unfold mapBytes
  rw [State.returns_config, State.returns_mem]
  split <;> rfl

/-- The status that the transaction returns replaces the old one, which the port left in place. -/
theorem settleWrite_returns (e : Except Status State) : settleWrite (s.returns st) (e.map (·.returns st)) = settleWrite s e := by
  cases e <;> rfl

theorem settleRead_returns (e : Except Status Value) : settleRead (s.returns st) e = settleRead s e := by
  cases e <;> rfl

theorem transact_returns (t : Transaction) : transact t (s.returns st) = transact t s := by
  cases t with
  | init => rfl
  | step => rw [transact, step_returns, transact]
  | regWrite i v => rw [transact, regWrite_returns, settleWrite_returns, transact]
  | mapBytes o bs => rw [transact, mapBytes_returns, settleWrite_returns, transact]
  | mapWords o ws => rw [transact, mapWords_eq_mapBytes, mapBytes_returns, settleWrite_returns, transact, mapWords_eq_mapBytes]
  | regRead | getPc | memRead8 | memRead32 => exact congrArg Host.Outcome.next (settleRead_returns ..)

end Noninterference

/-- Only a step while Uninitialized is refused; every other transaction answers (R205, R218). -/
theorem transact_answers (t : Transaction) (s : State) : (∃ r, transact t s = .next r) ∨
    (t = .step ∧ s.phase = .uninitialized ∧ transact t s = .refused .stepBeforeInit) := by
  cases t with
  | step =>
    cases hp : s.phase with
    | uninitialized =>
      have hs := (stepIsRefusedExactlyBeforeInit s).1 hp
      exact .inr ⟨rfl, rfl, by rw [transact, hs]⟩
    | running =>
      obtain ⟨u, hs, -⟩ := step_answers_running hp
      exact .inl ⟨_, transact_step_eq_next_iff.mpr ⟨u, hs, rfl⟩⟩
  | _ => exact .inl ⟨_, rfl⟩

/-- Settles O45: no operation reads the status (`transact_returns`), and after any of them the host may go on (`transact_answers`). -/
theorem statusNeverInfluencesWhatFollows : Obligations.StatusNeverInfluencesWhatFollows := by
  unfold Obligations.StatusNeverInfluencesWhatFollows
  exact ⟨fun t s st => transact_returns s st t, transact_answers⟩

end Sys2Proof.Machine

/-! Runs of steps (40_step_sequencer.md R129, 70_reset_and_hazards.md R239): each statement is by induction on the number of steps. -/

namespace Sys2Proof.Machine

/-- Settles O28: a step that cannot fetch leaves the state but for the status, so the next one cannot fetch either. -/
theorem fetchFaultRepeatsForever : Obligations.FetchFaultRepeatsForever := by
  unfold Obligations.FetchFaultRepeatsForever
  intro s n hp hout
  have hs : step s = .next (s.returns (.memoryFault s.pc)) := step_of_fetch_error hp (fetch_of_outOfRange hout)
  induction n with
  | zero => exact runSteps_succ_of_step hs 0
  | succ n ih =>
    rw [runSteps_succ_of_step hs, runSteps_succ_of_step ((step_returns s _).trans hs), ← runSteps_succ_of_step hs]
    exact ih

/-- A fetched step within memory stays Running, advances the pc and keeps configuration and memory. -/
theorem step_within_memory {s : State} (hp : s.phase = .running) (hin : s.pc.toNat + 4 ≤ s.config.memCapacity) :
    ∃ t, step s = .next t ∧ t.pc = s.pc + 4#32 ∧ t.phase = .running ∧ t.config = s.config ∧ t.mem = s.mem := by
  obtain ⟨t, he, hpc, hphase, hconfig, hmem, -⟩ := exec_completes _ s
  exact ⟨t, (step_of_fetch hp (fetch_of_inRange hin)).trans he, hpc, hphase.trans hp, hconfig, hmem⟩

/-- Settles O49: each step within memory leaves the next one within memory; where the pc wraps, no step follows. -/
theorem stepsWithinMemoryAllComplete : Obligations.StepsWithinMemoryAllComplete := by
  unfold Obligations.StepsWithinMemoryAllComplete
  intro n
  induction n with
  | zero =>
    intro s hp hin
    exact ⟨s, rfl, (BitVec.add_zero s.pc).symm, hp, rfl, fun _ => rfl⟩
  | succ n ih =>
    intro s hp hin
    obtain ⟨u, hu, hupc, huphase, huconfig, humem⟩ := step_within_memory hp (by omega)
    have hnext : u.pc.toNat + 4 * n ≤ u.config.memCapacity := by
      rw [hupc, huconfig, BitVec.toNat_add, BitVec.toNat_ofNat]
      omega
    obtain ⟨t, ht, hpc, hphase, hconfig, hmem⟩ := ih u huphase hnext
    refine ⟨t, (runSteps_succ_of_step hu n).trans ht, ?_, hphase, hconfig.trans huconfig, fun a => by rw [hmem, humem]⟩
    rw [hpc, hupc, BitVec.add_assoc, ← BitVec.ofNat_add, Nat.mul_succ, Nat.add_comm]

/-- A safe run is a step that answers Ok and a safe run after it. -/
theorem safeRun_succ {n : Nat} {s : State} (h : safeRun (n + 1) s = true) :
    ∃ t, step s = .next t ∧ t.status = .ok ∧ safeRun n t = true := by
  cases hs : step s with
  | next t =>
    rw [safeRun, hs] at h
    obtain ⟨hst, hrun⟩ := Bool.and_eq_true_iff.mp h
    exact ⟨t, rfl, of_decide_eq_true hst, hrun⟩
  | fault | refused =>
    rw [safeRun, hs] at h
    cases h

/-- A step that answers Ok fetched an ADD: it is the one outcome with that status (R128). -/
theorem isAddWord_of_status_ok {s t : State} (h : step s = .next t) (hst : t.status = .ok) :
    ∃ w, fetch s = .ok w ∧ IsAddWord w := by
  rcases step_answer_cases h with ⟨-, ht⟩ | ⟨-, w, hf, ⟨hadd, -⟩ | ⟨-, ht⟩ | ⟨-, -, ht⟩⟩
  · rw [ht] at hst
    cases hst
  · exact ⟨w, hf, hadd⟩
  · rw [ht] at hst
    cases hst
  · rw [ht] at hst
    cases hst

/-- Settles O50: the first step answers Ok, so it fetched an ADD; the others are those of the safe run after it. -/
theorem safeRunExecutesOnlyAdds : Obligations.SafeRunExecutesOnlyAdds := by
  unfold Obligations.SafeRunExecutesOnlyAdds
  intro n
  induction n with
  | zero => exact fun s _ k hk => absurd hk (Nat.not_lt_zero k)
  | succ n ih =>
    intro s hsafe k hk
    obtain ⟨u, hs, hst, hrest⟩ := safeRun_succ hsafe
    cases k with
    | zero =>
      obtain ⟨w, hf, hadd⟩ := isAddWord_of_status_ok hs hst
      exact ⟨s, w, rfl, phase_of_step hs, hf, hadd⟩
    | succ k =>
      obtain ⟨t, w, ht, hrun⟩ := ih u hrest k (Nat.lt_of_succ_lt_succ hk)
      exact ⟨t, w, (runSteps_succ_of_step hs k).trans ht, hrun⟩

end Sys2Proof.Machine
